-- ==== Sys2Proof/Word.lean ====
section
/-! DEFINITION. The widths the data book uses: a byte of a frame, a 16-bit field, a 32-bit count. -/

namespace Sys2Proof

/-- One byte of a frame, a record or the image. -/
abbrev Byte := BitVec 8

/-- A 16-bit field: an image label, a CRC-16. -/
abbrev Half := BitVec 16

/-- A 32-bit count: the Time Base count (R5), a journal sequence (R127). -/
abbrev Word := BitVec 32

end Sys2Proof
end

