-- ==== Sys2Proof/Config.lean ====
section
/-! DEFINITION. The fixed capacities of the part (00_scope, "The numbers in the name give the capacity").
The spec leaves no value free, so there is no opaque constant here; what one image sets is state (R10). -/

namespace Sys2Proof

/-- A trackside line, 0 to 3; also the number of its receiver (chapter 2). -/
abbrev LineId := Fin 4

/-- A detection point, 0 to 31 (R1). -/
abbrev PointId := Fin 32

/-- A section, 0 to 23 (R3). -/
abbrev SectionId := Fin 24

/-- One of the four transaction slots (R101). Slots have no number towards the masters. -/
abbrev SlotId := Fin 4

/-- One of the 512 record places of the journal (R127). -/
abbrev PlaceId := Fin 512

end Sys2Proof
end

