-- ==== Sys2Proof/Syntax.lean ====
section
/-! DEFINITION. The commands: one constructor for each row of spec/opcode_table.json, with what the event must
say beyond the state it meets. The table gives no row any bits or fields. -/

namespace Sys2Proof

/-- The four master ports (chapter 8). -/
inductive PortId where
  | ixa | ixb | mnt | recorder
  deriving DecidableEq, Repr

/-- Which port receive lines are low at the release of the reset input (R12). -/
structure PortLevels where
  ixaLow : Bool
  ixbLow : Bool
  mntLow : Bool
  recLow : Bool
  deriving DecidableEq, Repr

/-- How much of a hand-off one HAND_OFF command carries out: all that remains of it, or its next step of R61.
The second form lets the events of R61 and R62 fall between two steps (log 11). -/
inductive HandOffSpan where
  | whole | oneStep
  deriving DecidableEq, Repr

/-- The commands of opcode_table.json, in its order. `early` marks a character whose start bit came before the
receiver was turned on (R18). A request command has no operand: the request is the one the arbiter's choice
holds at its head (R157, log 8). -/
inductive Instr where
  | resetInputLow
  | coldStart (low : PortLevels)
  | loadEnd (image : List Byte)
  | warmStart
  | trkGoodCharacter (line : LineId) (byte : Byte) (early : Bool)
  | trkFramingError (line : LineId) (early : Bool)
  | trkBreak (line : LineId) (early : Bool)
  | trkBreakEnd (line : LineId)
  | trkGapTimeout (line : LineId)
  | lineSilenceExpiry (line : LineId)
  | telegramDelivery (line : LineId)
  | pointSilenceExpiry (point : PointId)
  | handOff (span : HandOffSpan)
  | clearingTimerExpiry (sec : SectionId)
  | confirmWindowExpiry (slot : SlotId)
  | dwellTimerExpiry (port : PortId)
  | portGoodCharacter (port : PortId) (byte : Byte)
  | rejoin (port : PortId) (tag : Byte)
  | portFramingError (port : PortId)
  | portBreak (port : PortId)
  | portBreakEnd (port : PortId)
  | portGapTimeout (port : PortId)
  | answerSent (port : PortId)
  | status
  | summary
  | readSection
  | readPoint
  | readLine
  | selectView
  | readNext
  | journalRead
  | journalSeek
  | identify
  | setMask
  | setInhibit
  | proposeReset
  | confirmReset
  | cancelReset
  | clearStatistics
  | restart
  | timeBaseMillisecond
  deriving DecidableEq, Repr

end Sys2Proof
end

