-- ==== Sys2Proof/Decode.lean ====
section
/-! DEFINITION. `decodeTableWord` over the rows of spec/opcode_table.json that give bits. No row gives any: the
commands are events at pins, timers and blocks, and have no encoding. -/

namespace Sys2Proof

/-- The command a table word spells. Every row of the table has an empty field list and no fixed bits, so no
word spells a command. -/
def decodeTableWord (_nbits _w : Nat) : Option Instr := none

end Sys2Proof
end

