-- ==== Sys2Proof/Machine/State.lean ====
section
/-! DEFINITION. Everything the spec gives the part to hold, as plain data, and the state a cold start leaves. -/

namespace Sys2Proof.Machine

/-- Reasons to stop with a fault. There is none: the part has no trap, and what the manual calls a fault (R7,
R48) is a state it goes on in. Safe: no command ends here. -/
inductive Fault where
  deriving DecidableEq, Repr

/-- Reasons to refuse a command. -/
inductive Refusal where
  /-- Raised by an arm of `exec` whose command has no meaning yet. Safe. No arm raises it. -/
  | notModelled (mnemonic : String)
  deriving DecidableEq, Repr

/-! ### Named values -/

/-- The three part states (R11). -/
inductive PartState where
  | starting | running | unconfigured
  deriving DecidableEq, Repr

/-- Cold or warm start (R12, R16). -/
inductive StartKind where
  | cold | warm
  deriving DecidableEq, Repr

/-- The image fault codes (R7). `none` is the code NONE. -/
inductive ImageFault where
  | none | noImage | length | check | range | topology
  deriving DecidableEq, Repr

/-- Trackside line rates in bit/s (R8). -/
inductive LineRate where
  | r38400 | r57600 | r115200
  deriving DecidableEq, Repr

/-- Master port rates in bit/s (R8). -/
inductive PortRate where
  | r57600 | r115200 | r230400
  deriving DecidableEq, Repr

/-- The two sides of a detection point (R1). -/
inductive Side where
  | a | b
  deriving DecidableEq, Repr

/-- The cause codes (10.8) other than NONE, which is the absence of a cause. -/
inductive Cause where
  | start | negative | overflow | implausible | sequence | conflict | pointRestart | headFault | pointLost
  deriving DecidableEq, Repr

/-- Point states by name (R34). -/
inductive PointName where
  | unused | hunt | pending | inSync | faulted | lost
  deriving DecidableEq, Repr

/-- Section states by name (R76). -/
inductive SectionName where
  | unused | disturbed | prepared | sweeping | occupied | clearing | clear
  deriving DecidableEq, Repr

/-- Verdicts (R78). -/
inductive Verdict where
  | unused | disturbed | notClear | clear
  deriving DecidableEq, Repr

/-- The two kinds of reset (chapter 6). -/
inductive ResetKind where
  | preparatory | direct
  deriving DecidableEq, Repr

/-- Reasons of a cancellation (R111). -/
inductive CancelReason where
  | requested | mismatch | notReady | point | inhibited | activity
  deriving DecidableEq, Repr

/-- What a RESET record tells, with its further item (R118). -/
inductive ResetEvent where
  | proposed (port : PortId) | confirmed (port : PortId) | completed | expired | cancelled (reason : CancelReason)
  deriving DecidableEq, Repr

/-- What a POINT record tells (R183). -/
inductive PointEvent where
  | stateChange | warningOn | warningOff
  deriving DecidableEq, Repr

/-- What a PORT record tells (R167). -/
inductive PortEvent where
  | isolated | rejoined | linkReset
  deriving DecidableEq, Repr

/-- The views of READ NEXT (R163). -/
inductive View where
  | sections | points | lines
  deriving DecidableEq, Repr

/-- Request names (R149). -/
inductive RequestKind where
  | status | summary | readSection | readPoint | readLine | selectView | readNext | journalRead | journalSeek
  | identify | setMask | rejoin | setInhibit | proposeReset | confirmReset | cancelReset | clearStatistics
  | restart
  deriving DecidableEq, Repr

/-- Result codes (8.12). -/
inductive ResultCode where
  | ok | empty | busy | starting | notConfigured | badRequest | notPermitted | range | notNeeded | notReady
  | inhibited | duplicate | tableFull | unknownTxn | mismatch
  deriving DecidableEq, Repr

/-- Arbiter modes (R160, R161). -/
inductive ArbMode where
  | rotate | fixed
  deriving DecidableEq, Repr

/-- Members of the level-one ring (R160). -/
inductive RingOne where
  | ixa | ixb | low
  deriving DecidableEq, Repr

/-- Members of the level-two ring (R160). -/
inductive RingTwo where
  | mnt | recorder
  deriving DecidableEq, Repr

/-! ### Frame assembly -/

/-- States of a frame assembler (2.2, R145). -/
inductive AsmState where
  | search | collect
  deriving DecidableEq, Repr

/-- A frame assembler of a line (2.2) or of a port (R145). `gap` is the time left of a running gap timer. -/
structure Assembler where
  state : AsmState
  held : List Byte
  gap : Option Nat
  breakFlag : Bool
  deriving DecidableEq, Repr

/-! ### Points -/

/-- A stored telegram: every field the telegram carries but its point address and its line (R32). -/
structure Telegram where
  seq : BitVec 3
  cAB : Byte
  cBA : Byte
  h1 : Bool
  h2 : Bool
  fault1 : Bool
  fault2 : Bool
  warning : Bool
  restart : Bool
  deriving DecidableEq, Repr

/-- A telegram on its way from a receiver to the Point Supervisor (R26). -/
structure Delivery where
  point : PointId
  telegram : Telegram
  deriving DecidableEq, Repr

/-- The image entry of a used point (R1, R2). Times in ms; `none` is the side NONE. -/
structure PointCfg where
  sideA : Option SectionId
  sideB : Option SectionId
  primary : LineId
  secondary : LineId
  axleLimit : Nat
  period : Nat
  silenceLimit : Nat
  gapLimit : Nat
  deriving DecidableEq, Repr

/-- The state of a point with the fields present only in it (R32): the candidate of PENDING; the history,
baseline and expected sequence of IN_SYNC. -/
inductive PointMode where
  | unused
  | hunt
  | pending (candidate : Telegram)
  | inSync (last : Telegram) (older : Option Telegram) (bAB bBA : Byte) (expected : BitVec 3)
  | faulted
  | lost
  deriving DecidableEq, Repr

/-- The six statistics of a point (R56). -/
structure PointStats where
  accepted : Nat
  lost : Nat
  duplicates : Nat
  conflicts : Nat
  implausible : Nat
  sequenceBreaks : Nat
  deriving DecidableEq, Repr

/-- A point context (R32). `silence` is the time left of a running silence timer (R50). -/
structure Point where
  cfg : Option PointCfg
  mode : PointMode
  h1 : Bool
  h2 : Bool
  fault1 : Bool
  fault2 : Bool
  warning : Bool
  silence : Option Nat
  lastLine : Option LineId
  lastCause : Option Cause
  stats : PointStats
  deriving DecidableEq, Repr

/-! ### Lines -/

/-- A trackside line (chapter 2): its verdict, silence timer, assembler, statistics, last valid frame time, and
the telegrams it has completed that the Point Supervisor has not taken (R27, R61). -/
structure Line where
  up : Bool
  silence : Option Nat
  asm : Assembler
  valid : Nat
  check : Nat
  timeout : Nat
  lineError : Nat
  misrouted : Nat
  lastValid : Option Word
  deliveries : List Delivery
  deriving DecidableEq, Repr

/-! ### The Count Engine -/

/-- How far the Count Engine is in a hand-off: made by the Point Supervisor and not begun, or after step 1, 2
or 3 of R61. After step 4 the hand-off has ended. -/
inductive HandOffStage where
  | waiting | recorded | appliedA | appliedB
  deriving DecidableEq, Repr

/-- One hand-off (R60). -/
structure HandOff where
  point : PointId
  dAB : Byte
  dBA : Byte
  gap : Nat
  seq : BitVec 3
  h1Before : Bool
  h2Before : Bool
  h1After : Bool
  h2After : Bool
  stage : HandOffStage
  deriving DecidableEq, Repr

/-! ### Sections -/

/-- The image entry of a used section (R10). The clear delay is in ms. -/
structure SectionCfg where
  preparatory : Bool
  direct : Bool
  clearDelay : Nat
  deriving DecidableEq, Repr

/-- The state of a section with the fields present only in it (R76): the cause of DISTURBED, the clearing time
remaining of CLEARING. -/
inductive SectionMode where
  | unused
  | disturbed (cause : Cause)
  | prepared
  | sweeping
  | occupied
  | clearing (remaining : Nat)
  | clear
  deriving DecidableEq, Repr

/-- An entry of a boundary list (R3). -/
structure Boundary where
  point : PointId
  side : Side
  deriving DecidableEq, Repr

/-- A section record (R76). -/
structure Section where
  cfg : Option SectionCfg
  mode : SectionMode
  net : Nat
  inTally : Nat
  outTally : Nat
  boundary : List Boundary
  passage : Bool
  repeatCount : Nat
  inhibitA : Bool
  inhibitB : Bool
  openTxn : Option Byte
  deriving DecidableEq, Repr

/-! ### Reset transactions -/

/-- An OPEN transaction slot (R101). `byIxa` and `byIxb` are the confirmation set. -/
structure Txn where
  number : Byte
  sec : SectionId
  kind : ResetKind
  proposer : PortId
  byIxa : Bool
  byIxb : Bool
  window : Nat
  deriving DecidableEq, Repr

/-! ### Journal -/

/-- What a writer hands to the journal: a kind with its payload (7.3, R183). -/
inductive RecordBody where
  | axle (point : PointId) (dAB dBA : Byte) (sideA sideB : Option SectionId) (gap : Nat) (seq : BitVec 3)
  | state (sec : SectionId) (old new : SectionName) (cause : Option Cause) (net : Nat)
  | point (point : PointId) (old new : PointName) (cause : Option Cause) (event : PointEvent)
  | line (line : LineId) (up : Bool)
  | reset (number : Byte) (sec : SectionId) (kind : ResetKind) (event : ResetEvent)
  | port (port : PortId) (event : PortEvent)
  | start (kind : StartKind) (label : Half) (fault : ImageFault)
  deriving DecidableEq, Repr

/-- A stored record: its sequence, its time and what its writer handed over (R129). -/
structure JRecord where
  seq : Word
  time : Word
  body : RecordBody
  deriving DecidableEq, Repr

/-- The ring, the write sequence W and the held count H (R127). -/
structure Journal where
  places : Vector (Option JRecord) 512
  writeSeq : Word
  held : Nat
  deriving DecidableEq, Repr

/-! ### Master ports -/

/-- A well-formed request (R149): what its name is, its tag and its payload bytes. -/
structure Request where
  kind : RequestKind
  tag : Byte
  payload : List Byte
  deriving DecidableEq, Repr

/-- How an answer counts: an immediate answer takes no slot (R154); a served one does; the OK of RESTART starts
the warm start when it has been sent (R16). -/
inductive AnswerKind where
  | immediate | served | servedRestart
  deriving DecidableEq, Repr

/-- An answer in an answer list (R155). -/
structure Answer where
  kind : AnswerKind
  tag : Byte
  result : ResultCode
  payload : List Byte
  deriving DecidableEq, Repr

/-- The link side of a master port (8.1). -/
structure Port where
  isolated : Bool
  errorLevel : Nat
  asm : Assembler
  queue : List Request
  answers : List Answer
  outstanding : Nat
  view : View
  viewCursor : Nat
  rxRate : PortRate
  txRate : PortRate
  threshold : Nat
  deriving DecidableEq, Repr

/-- The journal reading state (R132) and the attention state (R168) of a master port. `dwell` is the time left
of a running dwell timer; `mask` has the bit positions of 10.7. -/
structure Watch where
  cursor : Word
  slipCount : Nat
  dwell : Option Nat
  dwellTime : Nat
  trigger : Nat
  mask : BitVec 5
  latchLink : Bool
  latchSection : Bool
  latchReset : Bool
  latchDwell : Bool
  deriving DecidableEq, Repr

/-- The whole part, and the commands that wait. Tables of ports are in the order IXA, IXB, MNT, REC. -/
structure State where
  resetLow : Bool
  part : PartState
  startKind : StartKind
  imageFault : ImageFault
  imageLabel : Half
  time : Word
  memSelect : Bool
  lineRate : LineRate
  lines : Vector Line 4
  points : Vector Point 32
  handOff : Option HandOff
  sections : Vector Section 24
  slots : Vector (Option Txn) 4
  txnCounter : Byte
  commitLimit : Nat
  confirmWindow : Nat
  journal : Journal
  ports : Vector Port 4
  watches : Vector Watch 4
  attention : Vector Bool 4
  arbMode : ArbMode
  arbOne : RingOne
  arbTwo : RingTwo
  restartServed : Bool
  pending : List Instr
  deriving DecidableEq, Repr

/-! ### The state a cold start leaves (R12) -/

/-- SEARCH with no bytes held, the gap timer stopped and the break flag clear (R12, R18). -/
def Assembler.idle : Assembler := ⟨.search, [], none, false⟩

/-- A line that is DOWN with every statistic 0 and no last valid frame time (R12, R30). -/
def Line.cold : Line := ⟨false, none, .idle, 0, 0, 0, 0, 0, none, []⟩

/-- Six statistics at 0 (R33). -/
def PointStats.zero : PointStats := ⟨0, 0, 0, 0, 0, 0⟩

/-- A context that is not in service (R13, R33). -/
def Point.cold : Point := ⟨none, .unused, false, false, false, false, false, none, none, none, .zero⟩

/-- A section record that is not in service (R13, R77). -/
def Section.cold : Section := ⟨none, .unused, 0, 0, 0, [], false, 0, false, false, none⟩

/-- The empty journal (R127). -/
def Journal.empty : Journal := ⟨Vector.replicate 512 none, 0, 0⟩

/-- A port after a cold start (R12): ACTIVE, error level 0, nothing outstanding, view SECTIONS at 0, 57 600
bit/s, isolation threshold 16. -/
def Port.cold : Port := ⟨false, 0, .idle, [], [], 0, .sections, 0, .r57600, .r57600, 16⟩

/-- Reading and attention state after a cold start (R12, R132, R168): cursor 0, slip count 0, dwell timer
stopped, the port defaults, no latch set. -/
def Watch.cold : Watch := ⟨0, 0, none, 1000, 1, 0b11111, false, false, false, false⟩

/-- The part right after its first cold start, with every port receive line high (R12) and no load ended yet. The fields the spec states no
value for (line rate, transaction counter, commitment limit, confirm window, arbiter) are log 12's. -/
def State.reset : State where
  resetLow := false
  part := .starting
  startKind := .cold
  imageFault := .none
  imageLabel := 0
  time := 0
  memSelect := true
  lineRate := .r38400
  lines := Vector.replicate 4 .cold
  points := Vector.replicate 32 .cold
  handOff := none
  sections := Vector.replicate 24 .cold
  slots := Vector.replicate 4 none
  txnCounter := 1
  commitLimit := 0
  confirmWindow := 0
  journal := .empty
  ports := Vector.replicate 4 .cold
  watches := Vector.replicate 4 .cold
  attention := Vector.replicate 4 false
  arbMode := .rotate
  arbOne := .low
  arbTwo := .recorder
  restartServed := false
  pending := []

end Sys2Proof.Machine
end

