-- ==== Sys2Proof/Machine/Table.lean ====
section
/-! DEFINITION. Tables with a fixed number of entries, and the small arithmetic the chapters share: saturating
counts, timers in milliseconds. -/

namespace Sys2Proof.Machine

/-- Entry `i` of a table. -/
def tget {α : Type} {n : Nat} (t : Vector α n) (i : Fin n) : α := t[i.val]

/-- A table with entry `i` replaced. -/
def tset {α : Type} {n : Nat} (t : Vector α n) (i : Fin n) (x : α) : Vector α n := t.set i.val x

/-- A table with every entry changed, each knowing its own number. -/
def tmap {α β : Type} {n : Nat} (f : Fin n → α → β) (t : Vector α n) : Vector β n :=
  Vector.ofFn fun i => f i (tget t i)

/-- A table built entry by entry. -/
def tbuild {α : Type} {n : Nat} (f : Fin n → α) : Vector α n := Vector.ofFn f

/-- A count that stops at the top of its range (00, "A saturating counter"). -/
def satAdd (top x k : Nat) : Nat := min top (x + k)

/-- The top of a 16-bit saturating count (R30, R56, R69, R134). -/
def top16 : Nat := 65535

/-- One millisecond off a running timer; a timer at 0 has expired and waits for its expiry (log 3). -/
def tickTimer (t : Option Nat) : Option Nat := t.map (· - 1)

/-- A timer that runs and has reached its time. -/
def timerDue (t : Option Nat) : Bool := t == some 0

/-- A port's place in the tables of ports. -/
def portIndex (p : PortId) : Fin 4 :=
  match p with
  | .ixa => 0
  | .ixb => 1
  | .mnt => 2
  | .recorder => 3

/-! ### Entries of the state's tables -/

def State.line (s : State) (l : LineId) : Line := tget s.lines l
def State.setLine (s : State) (l : LineId) (x : Line) : State := { s with lines := tset s.lines l x }

def State.point (s : State) (d : PointId) : Point := tget s.points d
def State.setPoint (s : State) (d : PointId) (x : Point) : State := { s with points := tset s.points d x }

def State.sec (s : State) (n : SectionId) : Section := tget s.sections n
def State.setSec (s : State) (n : SectionId) (x : Section) : State := { s with sections := tset s.sections n x }

def State.slot (s : State) (k : SlotId) : Option Txn := tget s.slots k
def State.setSlot (s : State) (k : SlotId) (x : Option Txn) : State := { s with slots := tset s.slots k x }

def State.port (s : State) (p : PortId) : Port := tget s.ports (portIndex p)
def State.setPort (s : State) (p : PortId) (x : Port) : State := { s with ports := tset s.ports (portIndex p) x }

def State.watch (s : State) (p : PortId) : Watch := tget s.watches (portIndex p)
def State.setWatch (s : State) (p : PortId) (x : Watch) : State :=
  { s with watches := tset s.watches (portIndex p) x }

/-- The attention line of a port, true while asserted (R177). -/
def State.attn (s : State) (p : PortId) : Bool := tget s.attention (portIndex p)

end Sys2Proof.Machine
end

