-- ==== Sys2Proof/Machine/Params.lean ====
section
/-! DEFINITION. The constants of the data book: markers, times and limits, each with the rule that states it. -/

namespace Sys2Proof.Machine

/-- Start marker of a telegram (R19). -/
def telegramMarker : Byte := 0xC3
/-- Start marker of a request frame (R145). -/
def requestMarker : Byte := 0x5A
/-- Start byte of an answer frame (R156). -/
def answerMarker : Byte := 0xA5
/-- The gap timer of a trackside receiver, ms (R22). -/
def lineGapTime : Nat := 2
/-- The gap timer of a master port, ms (R146). -/
def portGapTime : Nat := 4
/-- The silence timer of a line, ms (R28). -/
def lineSilenceTime : Nat := 500
/-- The most payload bytes a request frame may announce (R145). -/
def maxRequestPayload : Nat := 12
/-- The largest net count (R68). -/
def maxNet : Nat := 2047
/-- The number of record places (R127). -/
def ringSize : Nat := 512
/-- The unread count that a slip leaves (R133). -/
def slipUnread : Word := 256
/-- What a slip adds to the slip count (R133, R134). -/
def slipSkipped : Nat := 257
/-- The most outstanding requests of a port (R154). -/
def maxOutstanding : Nat := 4
/-- The most immediate answers in an answer list (R155). -/
def maxImmediate : Nat := 8
/-- The top of the error level (R151) and of the repeat count (R88). -/
def top8 : Nat := 255
/-- The isolation threshold of the port defaults (R12). -/
def defaultThreshold : Nat := 16
/-- The trigger level of the port defaults (R12). -/
def defaultTrigger : Nat := 1
/-- The dwell time of the port defaults, ms (R12). -/
def defaultDwellTime : Nat := 1000
/-- The mask of the port defaults: all five causes (R12). -/
def defaultMask : BitVec 5 := 0b11111

end Sys2Proof.Machine
end

