-- ==== Sys2Proof/Machine/Bytes.lean ====
section
/-! DEFINITION. Byte order, padding and the CRC-16 (chapter 10). -/

namespace Sys2Proof.Machine

/-- The low eight bits of a number, as a byte of a frame. -/
def byteOf (n : Nat) : Byte := BitVec.ofNat 8 n

/-- A two-byte field, high byte first (R179). -/
def be16 (n : Nat) : List Byte := [byteOf (n / 256), byteOf n]

/-- A four-byte field, high byte first (R179). -/
def be32 (w : Word) : List Byte :=
  [byteOf (w.toNat / 16777216), byteOf (w.toNat / 65536), byteOf (w.toNat / 256), byteOf w.toNat]

/-- Bytes filled up with 00h to a length (R183: "Payload bytes that the kind does not use are 00h"). -/
def padTo (n : Nat) (bs : List Byte) : List Byte := bs ++ List.replicate (n - bs.length) 0

/-- The absent two-byte value FFFFh of chapter 10.5. -/
def absent16 : List Byte := [0xFF, 0xFF]

/-- A flag in bit `k` of a byte. -/
def bitAt (k : Nat) (b : Bool) : Nat := if b then 2 ^ k else 0

/-- One of the eight steps of R180. -/
def crcStep (c : Half) : Half := if c.msb then (c <<< 1) ^^^ 0x1021 else c <<< 1

/-- One byte into the CRC register (R180). -/
def crcByte (c : Half) (b : Byte) : Half := Nat.repeat crcStep 8 (c ^^^ (b.setWidth 16 <<< 8))

/-- The CRC-16 of a run of bytes (R180). -/
def crc16 (bs : List Byte) : Half := bs.foldl crcByte 0xFFFF

/-- A CRC as it is sent: high byte first (R180). -/
def crcBytes (c : Half) : List Byte := be16 c.toNat

/-- Byte `i` of a run; 0 past its end. -/
def byteAt (bs : List Byte) (i : Nat) : Byte := bs.getD i 0

/-- The 16-bit field at byte `i`, high byte first. -/
def halfAt (bs : List Byte) (i : Nat) : Half := (byteAt bs i) ++ (byteAt bs (i + 1))

end Sys2Proof.Machine
end

