-- ==== Sys2Proof/Machine/Codes.lean ====
section
/-! DEFINITION. The code tables of chapters 10.3 to 10.8 (R179), and the bytes of journal records (R183). -/

namespace Sys2Proof.Machine

/-- Part state codes (10.4). -/
def partCode (x : PartState) : Byte :=
  match x with
  | .starting => 0x00
  | .running => 0x01
  | .unconfigured => 0x02

/-- Image fault codes (10.8). -/
def imageFaultCode (x : ImageFault) : Byte :=
  match x with
  | .none => 0x00
  | .noImage => 0x01
  | .length => 0x02
  | .check => 0x03
  | .range => 0x04
  | .topology => 0x05

/-- Start kind codes (R183). -/
def startKindCode (x : StartKind) : Byte :=
  match x with
  | .cold => 0x00
  | .warm => 0x01

/-- Cause codes (10.8); no cause is NONE. -/
def causeCode (x : Option Cause) : Byte :=
  match x with
  | none => 0x00
  | some .start => 0x01
  | some .negative => 0x02
  | some .overflow => 0x03
  | some .implausible => 0x04
  | some .sequence => 0x05
  | some .conflict => 0x06
  | some .pointRestart => 0x07
  | some .headFault => 0x08
  | some .pointLost => 0x09

/-- Point state codes (10.8). -/
def pointCode (x : PointName) : Byte :=
  match x with
  | .unused => 0x00
  | .hunt => 0x01
  | .pending => 0x02
  | .inSync => 0x03
  | .faulted => 0x04
  | .lost => 0x05

/-- Section state codes (10.8). -/
def sectionCode (x : SectionName) : Byte :=
  match x with
  | .unused => 0x00
  | .disturbed => 0x01
  | .prepared => 0x02
  | .sweeping => 0x03
  | .occupied => 0x04
  | .clearing => 0x05
  | .clear => 0x06

/-- Verdict codes, two bits each (10.4). -/
def verdictCode (x : Verdict) : Nat :=
  match x with
  | .unused => 0
  | .disturbed => 1
  | .notClear => 2
  | .clear => 3

/-- Port codes (10.8). -/
def portCode (p : PortId) : Byte :=
  match p with
  | .ixa => 0x00
  | .ixb => 0x01
  | .mnt => 0x02
  | .recorder => 0x03

/-- Cancel reason codes (10.8). -/
def reasonCode (x : CancelReason) : Byte :=
  match x with
  | .requested => 0x01
  | .mismatch => 0x02
  | .notReady => 0x03
  | .point => 0x04
  | .inhibited => 0x05
  | .activity => 0x06

/-- Result codes (10.8). -/
def resultByte (x : ResultCode) : Byte :=
  match x with
  | .ok => 0x00
  | .empty => 0x01
  | .busy => 0x02
  | .starting => 0x03
  | .notConfigured => 0x04
  | .badRequest => 0x05
  | .notPermitted => 0x06
  | .range => 0x07
  | .notNeeded => 0x08
  | .notReady => 0x09
  | .inhibited => 0x0A
  | .duplicate => 0x0B
  | .tableFull => 0x0C
  | .unknownTxn => 0x0D
  | .mismatch => 0x0E

/-- Kind codes of a reset (R183). -/
def resetKindCode (k : ResetKind) : Byte :=
  match k with
  | .preparatory => 0x01
  | .direct => 0x02

/-- Side codes (10.5). -/
def sideCode (x : Side) : Byte :=
  match x with
  | .a => 0x00
  | .b => 0x01

/-- A side's section, FFh for NONE (10.5, R183). -/
def sectionOrNone (x : Option SectionId) : Byte :=
  match x with
  | none => 0xFF
  | some n => byteOf n.val

/-- Event code and further item of a RESET record (R183). -/
def resetEventBytes (e : ResetEvent) : List Byte :=
  match e with
  | .proposed p => [0x01, portCode p]
  | .confirmed p => [0x02, portCode p]
  | .completed => [0x03, 0x00]
  | .expired => [0x04, 0x00]
  | .cancelled r => [0x05, reasonCode r]

/-- Event codes of a POINT record (R183). -/
def pointEventCode (e : PointEvent) : Byte :=
  match e with
  | .stateChange => 0x00
  | .warningOn => 0x01
  | .warningOff => 0x02

/-- Event codes of a PORT record (R183). -/
def portEventCode (e : PortEvent) : Byte :=
  match e with
  | .isolated => 0x01
  | .rejoined => 0x02
  | .linkReset => 0x03

/-- Kind codes of stored records (R183). -/
def kindCode (b : RecordBody) : Byte :=
  match b with
  | .axle .. => 0x01
  | .state .. => 0x02
  | .point .. => 0x03
  | .line .. => 0x04
  | .reset .. => 0x05
  | .port .. => 0x06
  | .start .. => 0x07

/-- The kind code of a SLIP item (R183). -/
def slipKindCode : Byte := 0x0F

/-- The payload bytes a kind uses, before the 00h filling (R183). -/
def usedPayload (b : RecordBody) : List Byte :=
  match b with
  | .axle d dAB dBA a c gap seq =>
    [byteOf d.val, dAB, dBA, sectionOrNone a, sectionOrNone c, byteOf gap, byteOf seq.toNat]
  | .state n old new cause net =>
    [byteOf n.val, sectionCode old, sectionCode new, causeCode cause] ++ be16 net
  | .point d old new cause event =>
    [byteOf d.val, pointCode old, pointCode new, causeCode cause, pointEventCode event]
  | .line l up => [byteOf l.val, if up then 0x01 else 0x00]
  | .reset number n kind event => [number, byteOf n.val, resetKindCode kind] ++ resetEventBytes event
  | .port p event => [portCode p, portEventCode event]
  | .start kind label fault => [startKindCode kind] ++ be16 label.toNat ++ [imageFaultCode fault]

/-- The sixteen bytes of a record: sequence, time, kind, seven payload bytes (R183). -/
def recordBytes (r : JRecord) : List Byte :=
  be32 r.seq ++ be32 r.time ++ [kindCode r.body] ++ padTo 7 (usedPayload r.body)

/-- The sixteen bytes of a SLIP item (R137, R183). -/
def slipBytes (cursor time : Word) (count : Nat) : List Byte :=
  be32 cursor ++ be32 time ++ [slipKindCode] ++ padTo 7 (be16 count)

/-- Request codes (10.3); every other code is unknown. -/
def requestOfCode (code : Byte) : Option RequestKind :=
  match code.toNat with
  | 0x01 => some .status
  | 0x02 => some .summary
  | 0x03 => some .readSection
  | 0x04 => some .readPoint
  | 0x05 => some .readLine
  | 0x06 => some .selectView
  | 0x07 => some .readNext
  | 0x08 => some .journalRead
  | 0x09 => some .journalSeek
  | 0x0A => some .identify
  | 0x0B => some .setMask
  | 0x0C => some .rejoin
  | 0x10 => some .setInhibit
  | 0x11 => some .proposeReset
  | 0x12 => some .confirmReset
  | 0x13 => some .cancelReset
  | 0x18 => some .clearStatistics
  | 0x19 => some .restart
  | _ => none

/-- The payload length of a well-formed request (R149). -/
def requestLength (k : RequestKind) : Nat :=
  match k with
  | .status | .summary | .readNext | .identify | .rejoin | .clearStatistics | .restart => 0
  | .readSection | .readPoint | .readLine | .selectView | .journalRead | .journalSeek | .setMask
  | .cancelReset => 1
  | .setInhibit | .proposeReset | .confirmReset => 2

/-- The state of a point by name (R34). -/
def PointMode.name (m : PointMode) : PointName :=
  match m with
  | .unused => .unused
  | .hunt => .hunt
  | .pending _ => .pending
  | .inSync .. => .inSync
  | .faulted => .faulted
  | .lost => .lost

/-- The state of a section by name (R76). -/
def SectionMode.name (m : SectionMode) : SectionName :=
  match m with
  | .unused => .unused
  | .disturbed _ => .disturbed
  | .prepared => .prepared
  | .sweeping => .sweeping
  | .occupied => .occupied
  | .clearing _ => .clearing
  | .clear => .clear

/-- The verdict of a section, derived from its state (R78). -/
def SectionMode.verdict (m : SectionMode) : Verdict :=
  match m with
  | .unused => .unused
  | .disturbed _ => .disturbed
  | .prepared | .sweeping | .occupied | .clearing _ => .notClear
  | .clear => .clear

end Sys2Proof.Machine
end

