-- ==== Sys2Proof/Machine/Flags.lean ====
section
/-! DEFINITION. The attention causes of a port and its attention line (chapter 9), and the events that set the
latches. -/

namespace Sys2Proof.Machine

/-- The unread count of a port, W − C modulo 2^32 (R132). -/
def unread (writeSeq : Word) (x : Watch) : Nat := (writeSeq - x.cursor).toNat

/-- The unread count of port `p`. -/
def State.unread (s : State) (p : PortId) : Nat := Machine.unread s.journal.writeSeq (s.watch p)

/-- LEVEL is present while the unread count is at or above the trigger level (R172). -/
def levelPresent (writeSeq : Word) (x : Watch) : Bool := decide (x.trigger ≤ unread writeSeq x)

/-- The causes pending, masked and unmasked, in the bit positions of 10.7 (R168). -/
def pendingCauses (writeSeq : Word) (x : Watch) : BitVec 5 :=
  BitVec.ofNat 5 (bitAt 0 x.latchLink + bitAt 1 x.latchSection + bitAt 2 x.latchReset
    + bitAt 3 (levelPresent writeSeq x) + bitAt 4 x.latchDwell)

/-- Whether the attention line of a port is asserted: ISOLATED, or ACTIVE with an unmasked cause pending
(R177); never while the reset input is held low (R11). -/
def attentionOf (s : State) (p : PortId) : Bool :=
  !s.resetLow &&
    ((s.port p).isolated || (pendingCauses s.journal.writeSeq (s.watch p) &&& (s.watch p).mask) != 0)

/-- The port of an index of the tables of ports. -/
def portOfIndex (i : Fin 4) : PortId :=
  match i with
  | 0 => .ixa
  | 1 => .ixb
  | 2 => .mnt
  | 3 => .recorder

/-- The four attention lines decided again (R177: "in the same event as the change of its input"). -/
def settle (s : State) : State :=
  { s with attention := tbuild fun i => attentionOf s (portOfIndex i) }

/-- The LINK latch of a port (R169). -/
def setLinkLatch (p : PortId) (s : State) : State :=
  s.setWatch p { s.watch p with latchLink := true }

/-- The RESET latch of a port (R171). -/
def setResetLatch (p : PortId) (s : State) : State :=
  s.setWatch p { s.watch p with latchReset := true }

/-- The RESET latch after an outcome: on IXA and IXB, and on MNT when MNT was the proposer (R113). -/
def raiseReset (proposer : PortId) (s : State) : State :=
  let t := setResetLatch .ixb (setResetLatch .ixa s)
  if proposer = .mnt then setResetLatch .mnt t else t

end Sys2Proof.Machine
end

