-- ==== Sys2Proof/Machine/Ops.lean ====
section
/-! DEFINITION. The shared operations: the form of a command's answer, the append of a journal record (chapter 7),
the disturbance and the state change of a section (chapter 5), the ending of a reset transaction (chapter 6). -/

namespace Sys2Proof.Machine

/-- A command's answer: where the event can take place, its effect, with the attention lines decided again in
the same event (R177); where it cannot, it does not occur and nothing changes (log 1). -/
def event (can : Bool) (effect : State → State) (s : State) : Host.Outcome State Fault Refusal :=
  .next (if can then settle (effect s) else s)

/-- The part is not held inactive by the reset input (R11). -/
def State.live (s : State) : Bool := !s.resetLow

/-- Receivers, contexts, records and transactions are in service: RUNNING, reset input high (R13, R18). -/
def State.inService (s : State) : Bool := s.live && s.part == .running

/-! ### The journal -/

/-- The place of a sequence number (R127: "Record s is kept in place s modulo 512"). -/
def placeOf (seq : Word) : PlaceId := ⟨seq.toNat % ringSize, Nat.mod_lt _ (by decide)⟩

/-- The record that a sequence number names, if its place holds one. -/
def Journal.at (j : Journal) (seq : Word) : Option JRecord := tget j.places (placeOf seq)

/-- Steps 2 and 3 of an append (R129). -/
def Journal.push (j : Journal) (time : Word) (b : RecordBody) : Journal :=
  { places := tset j.places (placeOf j.writeSeq) (some ⟨j.writeSeq, time, b⟩)
    writeSeq := j.writeSeq + 1
    held := if j.held < ringSize then j.held + 1 else j.held }

/-- The oldest sequence number held, W − H (R127). -/
def Journal.oldest (j : Journal) : Word := j.writeSeq - BitVec.ofNat 32 j.held

/-- A slip (R133): the cursor goes to W′ − 256 and the skipped count is added to the slip count. -/
def slip (writeSeq : Word) (x : Watch) : Watch :=
  { x with cursor := writeSeq + 1 - slipUnread, slipCount := satAdd top16 x.slipCount slipSkipped }

/-- The dwell timer started from its full time (R140). -/
def restartDwell (x : Watch) : Watch := { x with dwell := some x.dwellTime }

/-- Whether a record is a STATE record. -/
def RecordBody.isState (b : RecordBody) : Bool :=
  match b with
  | .state .. => true
  | .axle .. | .point .. | .line .. | .reset .. | .port .. | .start .. => false

/-- What an append does to one port's reading and attention state: steps 1, 4 and 5 of R129. -/
def watchAppend (writeSeq : Word) (isState : Bool) (x : Watch) : Watch :=
  let slipped := if unread writeSeq x = ringSize then slip writeSeq x else x
  let timed := if unread writeSeq x = 0 then restartDwell slipped else slipped
  if isState then { timed with latchSection := true } else timed

/-- One append of a record (R129). -/
def append (b : RecordBody) (s : State) : State :=
  { s with
    journal := s.journal.push s.time b
    watches := tmap (fun _ x => watchAppend s.journal.writeSeq b.isState x) s.watches }

/-! ### Sections -/

/-- The disturbance cause of a state, where it is DISTURBED (R76). -/
def SectionMode.cause (m : SectionMode) : Option Cause :=
  match m with
  | .disturbed c => some c
  | .unused | .prepared | .sweeping | .occupied | .clearing _ | .clear => none

/-- Whether a state is one of a used section other than DISTURBED, in which the state logic rules (R80). -/
def SectionMode.ruled (m : SectionMode) : Bool :=
  match m with
  | .unused | .disturbed _ => false
  | .prepared | .sweeping | .occupied | .clearing _ | .clear => true

/-- The record of one event at a section (R79): `x` after the event, its state before it. A STATE record is
written when the state differs by name. -/
def putSection (n : SectionId) (old : SectionMode) (x : Section) (s : State) : State :=
  let t := s.setSec n x
  if old.name = x.mode.name then t
  else append (.state n old.name x.mode.name x.mode.cause x.net) t

/-- A disturbance with cause `c` of the record `x` (R88); the net is already what the event leaves. -/
def disturbed (c : Cause) (x : Section) : Section :=
  match x.mode with
  | .unused => x
  | .disturbed _ => { x with repeatCount := satAdd top8 x.repeatCount 1 }
  | .prepared | .sweeping | .occupied | .clearing _ | .clear => { x with mode := .disturbed c, repeatCount := 0 }

/-- A disturbance of section `n` from a departure (R53, R88). -/
def disturb (c : Cause) (n : SectionId) (s : State) : State :=
  putSection n (s.sec n).mode (disturbed c (s.sec n)) s

/-- The open transaction number of a section (R92). -/
def setOpenTxn (n : SectionId) (number : Option Byte) (s : State) : State :=
  s.setSec n { s.sec n with openTxn := number }

/-- The sections adjacent to a point, side A first (R1, R53, R74). -/
def PointCfg.adjacent (c : PointCfg) : List SectionId := c.sideA.toList ++ c.sideB.toList

/-! ### Reset transactions -/

/-- The four slots in one order. -/
def allSlots : List SlotId := [0, 1, 2, 3]

/-- The slot of the open transaction that meets a condition (at most one does, R103, R106). -/
def findTxn (q : Txn → Bool) (s : State) : Option (SlotId × Txn) :=
  allSlots.findSome? fun k =>
    match s.slot k with
    | some t => if q t then some (k, t) else none
    | none => none

/-- The open transaction for a section. -/
def txnOfSection (n : SectionId) (s : State) : Option (SlotId × Txn) := findTxn (fun t => t.sec == n) s

/-- The open transaction with a number. -/
def txnOfNumber (number : Byte) (s : State) : Option (SlotId × Txn) := findTxn (fun t => t.number == number) s

/-- The record of an event of a transaction (R118). -/
def resetRecord (t : Txn) (e : ResetEvent) : RecordBody := .reset t.number t.sec t.kind e

/-- A transaction ended without completing: EXPIRED (R114) or CANCELLED (R111). The record, the slot, the
section's open number and the attention outcome, in that order. -/
def endTxn (e : ResetEvent) (k : SlotId) (t : Txn) (s : State) : State :=
  raiseReset t.proposer (setOpenTxn t.sec none ((append (resetRecord t e) s).setSlot k none))

/-- The cancellation of an open transaction for section `n` that meets a condition, if there is one. -/
def cancelFor (reason : CancelReason) (q : Txn → Bool) (n : SectionId) (s : State) : State :=
  match findTxn (fun t => t.sec == n && q t) s with
  | some (k, t) => endTxn (.cancelled reason) k t s
  | none => s

end Sys2Proof.Machine
end

