-- ==== Sys2Proof/Machine/Operands.lean ====
section
/-! DEFINITION. The operand forms: the fields of a telegram (10.2), of a request frame (10.3) and of a request's
payload, and the access rights of the ports (R159). -/

namespace Sys2Proof.Machine

/-- The two steps of the frame check (R25) on bytes 1 to 6 of a telegram: the CRC, then the spare bits. -/
def telegramGood (bytes : List Byte) : Bool :=
  crc16 (bytes.take 4) == halfAt bytes 4 && (byteAt bytes 0).getLsbD 6 == false && (byteAt bytes 0).getLsbD 7 == false

/-- The fields of a valid telegram, from its bytes 1 to 4 (10.2). -/
def telegramOf (bytes : List Byte) : Delivery where
  point := (BitVec.extractLsb' 0 5 (byteAt bytes 0)).toFin
  telegram :=
    { seq := BitVec.extractLsb' 0 3 (byteAt bytes 1)
      warning := (byteAt bytes 1).getLsbD 3
      h1 := (byteAt bytes 1).getLsbD 4
      h2 := (byteAt bytes 1).getLsbD 5
      fault1 := (byteAt bytes 1).getLsbD 6
      fault2 := (byteAt bytes 1).getLsbD 7
      restart := (byteAt bytes 0).getLsbD 5
      cAB := byteAt bytes 2
      cBA := byteAt bytes 3 }

/-- The section number a payload byte names, if it lies in 0–23. -/
def sectionOfByte (b : Byte) : Option SectionId := if h : b.toNat < 24 then some ⟨b.toNat, h⟩ else none

/-- The point number a payload byte names, if it lies in 0–31. -/
def pointOfByte (b : Byte) : Option PointId := if h : b.toNat < 32 then some ⟨b.toNat, h⟩ else none

/-- The line number a payload byte names, if it lies in 0–3. -/
def lineOfByte (b : Byte) : Option LineId := if h : b.toNat < 4 then some ⟨b.toNat, h⟩ else none

/-- The kind a payload byte names (R104). -/
def resetKindOfByte (b : Byte) : Option ResetKind :=
  if b = 1 then some .preparatory else if b = 2 then some .direct else none

/-- The view a payload byte names (R163). -/
def viewOfByte (b : Byte) : Option View :=
  if b = 0 then some .sections else if b = 1 then some .points else if b = 2 then some .lines else none

/-- The request of a valid frame, where it is well formed: a known code with its own payload length (R149). -/
def requestOfFrame (tag code : Byte) (payload : List Byte) : Option Request :=
  match requestOfCode code with
  | some k => if payload.length = requestLength k then some ⟨k, tag, payload⟩ else none
  | none => none

/-- The requests that each port may make (R159). -/
def permitted (p : PortId) (k : RequestKind) : Bool :=
  match k with
  | .status | .summary | .readSection | .readPoint | .readLine | .selectView | .readNext | .journalRead
  | .journalSeek | .identify | .setMask | .rejoin => true
  | .setInhibit | .confirmReset => p == .ixa || p == .ixb
  | .proposeReset | .cancelReset => p != .recorder
  | .clearStatistics | .restart => p == .mnt

/-- The requests that are served in UNCONFIGURED (R15, R158). -/
def servedUnconfigured (k : RequestKind) : Bool :=
  match k with
  | .status | .identify | .setMask | .journalRead | .journalSeek | .restart => true
  | .summary | .readSection | .readPoint | .readLine | .selectView | .readNext | .rejoin | .setInhibit
  | .proposeReset | .confirmReset | .cancelReset | .clearStatistics => false

end Sys2Proof.Machine
end

