-- ==== Sys2Proof/Machine/Trackside.lean ====
section
/-! DEFINITION. Trackside lines (chapter 2): characters, frame assembly, frame check, routing, line state. -/

namespace Sys2Proof.Machine

/-- The assembler back in SEARCH with no bytes held and the gap timer stopped; the break flag stays. -/
def Assembler.toSearch (a : Assembler) : Assembler := { a with state := .search, held := [], gap := none }

/-- A marker received in SEARCH: COLLECT, no bytes held, the gap timer started (R20, R145). -/
def Assembler.begin (a : Assembler) (gapTime : Nat) : Assembler :=
  { a with state := .collect, held := [], gap := some gapTime }

/-- A byte stored in COLLECT; the gap timer starts again (R21, R145). -/
def Assembler.store (a : Assembler) (gapTime : Nat) (b : Byte) : Assembler :=
  { a with held := a.held ++ [b], gap := some gapTime }

/-- A receiver takes a character: it is on (R18), no break is in progress (R24), and the character's start bit
fell after it was turned on (R18). -/
def lineTakes (l : LineId) (early : Bool) (s : State) : Bool :=
  s.inService && !early && !(s.line l).asm.breakFlag

/-- LINE_ERROR raised by one, and any frame in collection abandoned (R23, R24). -/
def Line.error (x : Line) : Line := { x with lineError := satAdd top16 x.lineError 1, asm := x.asm.toSearch }

/-- A valid frame at the line's statistics and time (R26). -/
def Line.validFrame (time : Word) (x : Line) : Line :=
  { x with valid := satAdd top16 x.valid 1, lastValid := some time }

/-- A valid frame at the line state (R28): the silence timer starts; a DOWN line becomes UP with a LINE record. -/
def lineHeard (l : LineId) (s : State) : State :=
  let x := s.line l
  let t := s.setLine l { x with up := true, silence := some lineSilenceTime }
  if x.up then t else append (.line l true) t

/-- Whether a telegram on line `l` for point `d` is routed to the Point Supervisor (R2, R26). -/
def routed (l : LineId) (d : PointId) (s : State) : Bool :=
  match (s.point d).cfg with
  | some c => c.primary == l || c.secondary == l
  | none => false

/-- The routing of a valid frame (R26): handed to the Point Supervisor, or MISROUTED. -/
def routeTelegram (l : LineId) (d : Delivery) (s : State) : State :=
  let x := s.line l
  if routed l d.point s then s.setLine l { x with deliveries := x.deliveries ++ [d] }
  else s.setLine l { x with misrouted := satAdd top16 x.misrouted 1 }

/-- The check of a complete frame, the six bytes after the marker (R25), and what follows it (R26, R28). -/
def checkTelegram (l : LineId) (bytes : List Byte) (s : State) : State :=
  if telegramGood bytes then
    routeTelegram l (telegramOf bytes) (lineHeard l (s.setLine l ((s.line l).validFrame s.time)))
  else s.setLine l { s.line l with check := satAdd top16 (s.line l).check 1 }

/-- A good character in the frame assembler of a line (R20, R21). -/
def lineCharacter (l : LineId) (b : Byte) (s : State) : State :=
  let x := s.line l
  match x.asm.state with
  | .search => if b = telegramMarker then s.setLine l { x with asm := x.asm.begin lineGapTime } else s
  | .collect =>
    let stored := x.asm.store lineGapTime b
    if stored.held.length < 6 then s.setLine l { x with asm := stored }
    else checkTelegram l stored.held (s.setLine l { x with asm := x.asm.toSearch })

/-- TRK_GOOD_CHARACTER (R18, R20, R21). -/
def execTrkGoodCharacter (l : LineId) (b : Byte) (early : Bool) (s : State) : Host.Outcome State Fault Refusal :=
  event (lineTakes l early s) (lineCharacter l b) s

/-- TRK_FRAMING_ERROR (R23). -/
def execTrkFramingError (l : LineId) (early : Bool) (s : State) : Host.Outcome State Fault Refusal :=
  event (lineTakes l early s) (fun s => s.setLine l (s.line l).error) s

/-- The line after a break is recognised: LINE_ERROR, the break flag, any frame abandoned (R24). -/
def Line.breakSeen (x : Line) : Line :=
  let y := x.error
  { y with asm := { y.asm with breakFlag := true } }

/-- TRK_BREAK (R24). -/
def execTrkBreak (l : LineId) (early : Bool) (s : State) : Host.Outcome State Fault Refusal :=
  event (lineTakes l early s) (fun s => s.setLine l (s.line l).breakSeen) s

/-- TRK_BREAK_END (R24): the break flag clears and the assembler is in SEARCH. -/
def execTrkBreakEnd (l : LineId) (s : State) : Host.Outcome State Fault Refusal :=
  event (s.inService && (s.line l).asm.breakFlag)
    (fun s => s.setLine l { s.line l with asm := { (s.line l).asm.toSearch with breakFlag := false } }) s

/-- TRK_GAP_TIMEOUT (R22): TIMEOUT rises and the frame is abandoned. -/
def execTrkGapTimeout (l : LineId) (s : State) : Host.Outcome State Fault Refusal :=
  event (s.inService && (s.line l).asm.state == .collect && timerDue (s.line l).asm.gap)
    (fun s => s.setLine l
      { s.line l with timeout := satAdd top16 (s.line l).timeout 1, asm := (s.line l).asm.toSearch }) s

/-- LINE_SILENCE_EXPIRY (R28): the UP line becomes DOWN, its timer stops and a LINE record is written. -/
def execLineSilenceExpiry (l : LineId) (s : State) : Host.Outcome State Fault Refusal :=
  event (s.inService && (s.line l).up && timerDue (s.line l).silence)
    (fun s => append (.line l false) (s.setLine l { s.line l with up := false, silence := none })) s

end Sys2Proof.Machine
end

