-- ==== Sys2Proof/Machine/Supervision.lean ====
section
/-! DEFINITION. Detection point supervision (chapter 3) and the plausibility test (4.1): TELEGRAM_DELIVERY and
POINT_SILENCE_EXPIRY. -/

namespace Sys2Proof.Machine

/-- Either head fault flag of a telegram (R36). -/
def Telegram.headFault (t : Telegram) : Bool := t.fault1 || t.fault2

/-- The full silence time of a point, ms (R50). -/
def PointCfg.silenceTime (c : PointCfg) : Nat := c.silenceLimit * c.period

/-- The fault flags of a context taken from a telegram (R48). -/
def Point.takeFaults (x : Point) (t : Telegram) : Point := { x with fault1 := t.fault1, fault2 := t.fault2 }

/-- Both fault flags clear (R36, R39). -/
def Point.clearFaults (x : Point) : Point := { x with fault1 := false, fault2 := false }

/-- The heads and the warning flag taken from an accepted telegram (R38, R45). -/
def Point.takeHeads (x : Point) (t : Telegram) : Point := { x with h1 := t.h1, h2 := t.h2, warning := t.warning }

/-- The `accepted` statistic raised by one (R56). -/
def PointStats.countAccepted (c : PointStats) : PointStats := { c with accepted := satAdd top16 c.accepted 1 }

/-- The `lost` statistic raised by a gap (R44, R56). -/
def PointStats.countLost (g : Nat) (c : PointStats) : PointStats := { c with lost := satAdd top16 c.lost g }

/-- The `duplicates` statistic raised by one (R56). -/
def PointStats.countDuplicate (c : PointStats) : PointStats :=
  { c with duplicates := satAdd top16 c.duplicates 1 }

/-- The statistic of a departure's cause raised by one; three causes have none (R52). -/
def PointStats.countDeparture (cause : Cause) (c : PointStats) : PointStats :=
  match cause with
  | .conflict => { c with conflicts := satAdd top16 c.conflicts 1 }
  | .implausible => { c with implausible := satAdd top16 c.implausible 1 }
  | .sequence => { c with sequenceBreaks := satAdd top16 c.sequenceBreaks 1 }
  | .pointRestart | .headFault | .pointLost | .start | .negative | .overflow => c

/-- A change of state that is no departure: the context and its POINT record (R55). -/
def changePoint (d : PointId) (old : PointName) (x : Point) (cause : Option Cause) (s : State) : State :=
  append (.point d old x.mode.name cause .stateChange) (s.setPoint d x)

/-- The POINT record of a change of warning (R49). -/
def warningRecord (d : PointId) (before after : Bool) (s : State) : State :=
  if before = after then s
  else append (.point d .inSync .inSync none (if after then .warningOn else .warningOff)) s

/-- The hand-off the Point Supervisor makes (R60), with the context before the telegram and the telegram. -/
def makeHandOff (d : PointId) (x : Point) (t : Telegram) (dAB dBA : Byte) (gap : Nat) (s : State) : State :=
  { s with handOff := some ⟨d, dAB, dBA, gap, t.seq, x.h1, x.h2, t.h1, t.h2, .waiting⟩ }

/-! ### HUNT, LOST, FAULTED, PENDING -/

/-- To FAULTED, with the fault flags of the telegram (R36, R37, R39). -/
def toFaulted (d : PointId) (x : Point) (t : Telegram) (s : State) : State :=
  changePoint d x.mode.name ({ x with mode := .faulted }.takeFaults t) (some .headFault) s

/-- To PENDING, with the telegram as candidate and both fault flags clear (R36, R39). -/
def toPending (d : PointId) (x : Point) (t : Telegram) (s : State) : State :=
  changePoint d x.mode.name ({ x with mode := .pending t }.clearFaults) none s

/-- A telegram in HUNT or LOST (R36). -/
def huntTelegram (d : PointId) (x : Point) (t : Telegram) (s : State) : State :=
  if t.headFault then toFaulted d x t s else toPending d x t s

/-- A telegram in FAULTED (R39): a faulted one replaces the flags without a record. -/
def faultedTelegram (d : PointId) (x : Point) (t : Telegram) (s : State) : State :=
  if t.headFault then s.setPoint d (x.takeFaults t) else toPending d x t s

/-- The context on entry to IN_SYNC (R38). -/
def syncedPoint (x : Point) (candidate t : Telegram) : Point :=
  { x with
    mode := .inSync t (some candidate) t.cAB t.cBA (t.seq + 1)
    stats := x.stats.countAccepted }.takeHeads t

/-- Entry to IN_SYNC (R38): the context, its POINT record, a warning record, and a hand-off with deltas 0. -/
def enterSync (d : PointId) (x : Point) (candidate t : Telegram) (s : State) : State :=
  makeHandOff d x t 0 0 0
    (warningRecord d x.warning t.warning (changePoint d .pending (syncedPoint x candidate t) none s))

/-- A telegram in PENDING, tested in the order of R37. -/
def pendingTelegram (d : PointId) (x : Point) (candidate t : Telegram) (s : State) : State :=
  if t.headFault then toFaulted d x t s
  else if t.seq = candidate.seq + 1 then enterSync d x candidate t s
  else if t = candidate then s.setPoint d { x with stats := x.stats.countDuplicate }
  else s.setPoint d { x with mode := .pending t }

/-! ### Departure (3.6) -/

/-- Where a departure leads (R52): by silence to LOST, by a telegram to FAULTED or PENDING. -/
def departed (x : Point) (t : Option Telegram) : Point :=
  match t with
  | none => { x with mode := .lost, silence := none }
  | some t => if t.headFault then { x with mode := .faulted }.takeFaults t else { x with mode := .pending t }

/-- The context after a departure with a cause (R52). -/
def departedPoint (cause : Cause) (x : Point) (t : Option Telegram) : Point :=
  { departed x t with lastCause := some cause, stats := x.stats.countDeparture cause }

/-- The report of a departure to the Reset Transaction Table (R54, R115), each adjacent section in order. -/
def reportDeparture (secs : List SectionId) (s : State) : State :=
  secs.foldl (fun s n => cancelFor .point (fun _ => true) n s) s

/-- A departure (R52 to R54): the context, the POINT record, the disturbances, the report. -/
def depart (d : PointId) (c : PointCfg) (x : Point) (cause : Cause) (t : Option Telegram) (s : State) : State :=
  let y := departedPoint cause x t
  reportDeparture c.adjacent
    (c.adjacent.foldl (fun s n => disturb cause n s)
      (append (.point d .inSync y.mode.name (some cause) .stateChange) (s.setPoint d y)))

/-! ### IN_SYNC (3.4) -/

/-- The class of a telegram (R41). A COPY carries the history telegram that bears its sequence. -/
inductive TelegramClass where
  | normal
  | gap (g : Nat)
  | copy (of : Telegram)
  | break
  deriving DecidableEq, Repr

/-- The classification of a sequence against the expected one (R41), differences modulo 8. -/
def classify (seq expected : BitVec 3) (gapLimit : Nat) (last : Telegram) (older : Option Telegram) :
    TelegramClass :=
  let ahead := (seq - expected).toNat
  if ahead = 0 then .normal
  else if ahead ≤ gapLimit then .gap ahead
  else if ahead = 7 then .copy last
  else if ahead = 6 then
    match older with
    | some o => .copy o
    | none => .break
  else .break

/-- The plausibility test (R59): the plain sum of the deltas against L × (g + 1). -/
def plausible (dAB dBA : Byte) (axleLimit gap : Nat) : Bool :=
  decide (dAB.toNat + dBA.toNat ≤ axleLimit * (gap + 1))

/-- The context after an acceptance (R40, R45). -/
def acceptedPoint (x : Point) (last t : Telegram) (gap : Nat) : Point :=
  { x with
    mode := .inSync t (if gap = 0 then some last else none) t.cAB t.cBA (t.seq + 1)
    stats := x.stats.countAccepted }.takeHeads t

/-- An acceptance (R45): the context, a warning record, and the hand-off. -/
def acceptTelegram (d : PointId) (x : Point) (last t : Telegram) (dAB dBA : Byte) (gap : Nat) (s : State) :
    State :=
  makeHandOff d x t dAB dBA gap
    (warningRecord d x.warning t.warning (s.setPoint d (acceptedPoint x last t gap)))

/-- Step 6 of R42: accepted, or departed as IMPLAUSIBLE (R46, R58, R59). -/
def judgeCounts (d : PointId) (c : PointCfg) (x : Point) (last : Telegram) (bAB bBA : Byte) (t : Telegram)
    (gap : Nat) (s : State) : State :=
  if plausible (t.cAB - bAB) (t.cBA - bBA) c.axleLimit gap then
    acceptTelegram d x last t (t.cAB - bAB) (t.cBA - bBA) gap s
  else depart d c x .implausible (some t) s

/-- A telegram in IN_SYNC, decided by the first step of R42 that decides; a COPY is compared under R43. -/
def inSyncTelegram (d : PointId) (c : PointCfg) (x : Point) (last : Telegram) (older : Option Telegram)
    (bAB bBA : Byte) (expected : BitVec 3) (t : Telegram) (s : State) : State :=
  match classify t.seq expected c.gapLimit last older with
  | .copy original =>
    if t = original then s.setPoint d { x with stats := x.stats.countDuplicate }
    else depart d c x .conflict (some t) s
  | cls =>
    if t.restart then depart d c x .pointRestart (some t) s
    else if t.headFault then depart d c x .headFault (some t) s
    else
      match cls with
      | .gap g => judgeCounts d c { x with stats := x.stats.countLost g } last bAB bBA t g s
      | .normal => judgeCounts d c x last bAB bBA t 0 s
      | .break | .copy _ => depart d c x .sequence (some t) s

/-! ### The two commands -/

/-- The context before its state is looked at: last line set, silence timer started afresh (R35). -/
def Point.heard (x : Point) (c : PointCfg) (l : LineId) : Point :=
  { x with lastLine := some l, silence := some c.silenceTime }

/-- One delivery for a used point, handled by the rule of its state (R35). The context with its last line and
timer set stands in the table before the rule is applied. -/
def supervise (l : LineId) (del : Delivery) (s : State) : State :=
  match (s.point del.point).cfg with
  | none => s
  | some c =>
    let x := (s.point del.point).heard c l
    match x.mode with
    | .unused => s
    | .hunt | .lost => huntTelegram del.point x del.telegram s
    | .pending candidate => pendingTelegram del.point x candidate del.telegram s
    | .inSync last older bAB bBA e => inSyncTelegram del.point c x last older bAB bBA e del.telegram s
    | .faulted => faultedTelegram del.point x del.telegram s

/-- The oldest waiting delivery of a receiver taken by the Point Supervisor (R27, R35). -/
def takeDelivery (l : LineId) (s : State) : State :=
  match (s.line l).deliveries with
  | [] => s
  | del :: rest => supervise l del (s.setLine l { s.line l with deliveries := rest })

/-- TELEGRAM_DELIVERY (R35): not while a hand-off is made and not ended (R61). -/
def execTelegramDelivery (l : LineId) (s : State) : Host.Outcome State Fault Refusal :=
  event (s.inService && s.handOff.isNone && !(s.line l).deliveries.isEmpty) (takeDelivery l) s

/-- A point's silence timer has expired (R51). From PENDING and FAULTED it is no departure; in the other states
the timer does not run (R50). -/
def pointSilent (d : PointId) (s : State) : State :=
  let x := s.point d
  match x.cfg, x.mode with
  | some c, .inSync .. => depart d c x .pointLost none s
  | some _, .pending _ | some _, .faulted =>
    changePoint d x.mode.name { x with mode := .lost, silence := none } (some .pointLost) s
  | some _, .hunt | some _, .lost | some _, .unused | none, _ => s

/-- POINT_SILENCE_EXPIRY (R51). -/
def execPointSilenceExpiry (d : PointId) (s : State) : Host.Outcome State Fault Refusal :=
  event (s.inService && timerDue (s.point d).silence) (pointSilent d) s

end Sys2Proof.Machine
end

