-- ==== Sys2Proof/Machine/Counting.lean ====
section
/-! DEFINITION. The Count Engine and the section state logic (chapters 4 and 5): HAND_OFF and
CLEARING_TIMER_EXPIRY. -/

namespace Sys2Proof.Machine

/-! ### The state logic (5.3, 5.4) -/

/-- The state of a section found vacant: CLEARING with the full clear delay, or CLEAR where it is 0 (R82, R87). -/
def vacated (clearDelay : Nat) : SectionMode := if clearDelay = 0 then .clear else .clearing clearDelay

/-- The state after an in-range application (R80 to R87), from the new net, the new passage flag and in(S). -/
def ruleState (m : SectionMode) (clearDelay net : Nat) (passage : Bool) (ins : Nat) : SectionMode :=
  let vacant := net == 0 && !passage
  match m with
  | .clear => if vacant then .clear else .occupied
  | .occupied => if vacant then vacated clearDelay else .occupied
  | .clearing r => if vacant then .clearing r else .occupied
  | .prepared => if ins = 0 then .prepared else if vacant then vacated clearDelay else .sweeping
  | .sweeping => if vacant then vacated clearDelay else .sweeping
  | .unused => .unused
  | .disturbed c => .disturbed c

/-- The passage flag from the heads of the contexts of all boundary points (R70). -/
def passageOf (x : Section) (s : State) : Bool :=
  x.boundary.any fun b => (s.point b.point).h1 || (s.point b.point).h2

/-- The result of an application (R65): net plus in(S) minus out(S), a whole number. -/
def resultOf (x : Section) (ins outs : Nat) : Int := (x.net : Int) + ins - outs

/-- The net that a result leaves, clamped to 0..2047 (R66 to R68). -/
def clampNet (result : Int) : Nat := min maxNet result.toNat

/-- The clear delay of a section record. -/
def Section.clearDelay (x : Section) : Nat := (x.cfg.map SectionCfg.clearDelay).getD 0

/-- Steps 1 to 3 of an application (R65): the net, the tallies (R69), the passage flag (R70). -/
def countedSection (x : Section) (ins outs : Nat) (passage : Bool) : Section :=
  { x with
    net := clampNet (resultOf x ins outs)
    inTally := satAdd top16 x.inTally ins
    outTally := satAdd top16 x.outTally outs
    passage := passage }

/-- An application to a section record (R65): counted, then disturbed where the result was out of range (R67,
R68), else ruled on (R80; in DISTURBED the logic does not rule, R72). -/
def appliedSection (x : Section) (ins outs : Nat) (passage : Bool) : Section :=
  let y := countedSection x ins outs passage
  if resultOf x ins outs < 0 then disturbed .negative y
  else if (maxNet : Int) < resultOf x ins outs then disturbed .overflow y
  else { y with mode := ruleState x.mode x.clearDelay y.net passage ins }

/-- One application to section `n` (R65). An unused section is reached by none (R64). -/
def applySection (n : SectionId) (ins outs : Nat) (s : State) : State :=
  let x := s.sec n
  if x.mode = .unused then s
  else putSection n x.mode (appliedSection x ins outs (passageOf x s)) s

/-! ### The hand-off (R61) -/

/-- Whether the deltas of a hand-off add to more than 0 (R61, R75). -/
def HandOff.counts (h : HandOff) : Bool := decide (0 < h.dAB.toNat + h.dBA.toNat)

/-- Activity (R74): an axle counted, or a head that was free before the telegram and is damped after it. -/
def HandOff.active (h : HandOff) : Bool :=
  h.counts || (!h.h1Before && h.h1After) || (!h.h2Before && h.h2After)

/-- The section on side A of a point. -/
def State.sideA (s : State) (d : PointId) : Option SectionId := (s.point d).cfg.bind PointCfg.sideA

/-- The section on side B of a point. -/
def State.sideB (s : State) (d : PointId) : Option SectionId := (s.point d).cfg.bind PointCfg.sideB

/-- Step 1 of R61: the AXLE record (R75). -/
def recordAxles (h : HandOff) (s : State) : State :=
  if h.counts then append (.axle h.point h.dAB h.dBA (s.sideA h.point) (s.sideB h.point) h.gap h.seq) s else s

/-- Step 2 of R61: side A counts B-to-A axles in and A-to-B axles out (R63); a side of NONE takes none (R64). -/
def applySideA (h : HandOff) (s : State) : State :=
  match s.sideA h.point with
  | some n => applySection n h.dBA.toNat h.dAB.toNat s
  | none => s

/-- Step 3 of R61: side B counts A-to-B axles in and B-to-A axles out (R63). -/
def applySideB (h : HandOff) (s : State) : State :=
  match s.sideB h.point with
  | some n => applySection n h.dAB.toNat h.dBA.toNat s
  | none => s

/-- The activity report at the Reset Transaction Table (R117): each section's open DIRECT transaction is
cancelled with reason ACTIVITY. -/
def reportActivity (secs : List SectionId) (s : State) : State :=
  secs.foldl (fun s n => cancelFor .activity (fun t => t.kind == .direct) n s) s

/-- Step 4 of R61: the activity report, if there is any (R74). -/
def activityStep (h : HandOff) (s : State) : State :=
  if h.active then reportActivity ((s.sideA h.point).toList ++ (s.sideB h.point).toList) s else s

/-- The hand-off with its next stage, or ended. -/
def setStage (h : HandOff) (stage : Option HandOffStage) (s : State) : State :=
  { s with handOff := stage.map fun g => { h with stage := g } }

/-- The next step of a hand-off (R61). -/
def handOffStep (h : HandOff) (s : State) : State :=
  match h.stage with
  | .waiting => setStage h (some .recorded) (recordAxles h s)
  | .recorded => setStage h (some .appliedA) (applySideA h s)
  | .appliedA => setStage h (some .appliedB) (applySideB h s)
  | .appliedB => setStage h none (activityStep h s)

/-- The next step, if a hand-off is not ended. -/
def handOffOnce (s : State) : State :=
  match s.handOff with
  | some h => handOffStep h s
  | none => s

/-- All that remains of a hand-off: at most its four steps. -/
def handOffAll (s : State) : State := handOffOnce (handOffOnce (handOffOnce (handOffOnce s)))

/-- HAND_OFF (R61). -/
def execHandOff (span : HandOffSpan) (s : State) : Host.Outcome State Fault Refusal :=
  event (s.inService && s.handOff.isSome)
    (match span with
     | .whole => handOffAll
     | .oneStep => handOffOnce) s

/-- CLEARING_TIMER_EXPIRY (R83): from CLEARING to CLEAR, with a STATE record. -/
def execClearingTimerExpiry (n : SectionId) (s : State) : Host.Outcome State Fault Refusal :=
  event (s.inService && (s.sec n).mode == .clearing 0)
    (fun s => putSection n (s.sec n).mode { s.sec n with mode := .clear } s) s

end Sys2Proof.Machine
end

