-- ==== Sys2Proof/Machine/Engine.lean ====
section
/-! DEFINITION. The Request Engine and its arbiter (8.6, 8.7): which request is taken, the order of its checks,
and where its answer goes. -/

namespace Sys2Proof.Machine

/-- Whether a port has a request queued. -/
def hasRequest (p : PortId) (s : State) : Bool := !(s.port p).queue.isEmpty

/-- The level-two winner (R160): the first of MNT and REC, after the one the pointer names, with a request. -/
def winTwo (last : RingTwo) (s : State) : RingTwo :=
  match last with
  | .recorder => if hasRequest .mnt s then .mnt else .recorder
  | .mnt => if hasRequest .recorder s then .recorder else .mnt

/-- Whether a member of the level-one ring has a request (R160). -/
def ringHas (m : RingOne) (s : State) : Bool :=
  match m with
  | .ixa => hasRequest .ixa s
  | .ixb => hasRequest .ixb s
  | .low => hasRequest .mnt s || hasRequest .recorder s

/-- The level-one ring from the member after `last`, once round (R160). -/
def ringFrom (last : RingOne) : List RingOne :=
  match last with
  | .ixa => [.ixb, .low, .ixa]
  | .ixb => [.low, .ixa, .ixb]
  | .low => [.ixa, .ixb, .low]

/-- The port of a member of the level-two ring. -/
def RingTwo.port (m : RingTwo) : PortId :=
  match m with
  | .mnt => .mnt
  | .recorder => .recorder

/-- The arbiter's choice in ROTATE mode with the pointers after it (R160). -/
def chooseRotate (s : State) : Option (PortId × RingOne × RingTwo) :=
  match (ringFrom s.arbOne).find? fun m => ringHas m s with
  | some .ixa => some (.ixa, .ixa, s.arbTwo)
  | some .ixb => some (.ixb, .ixb, s.arbTwo)
  | some .low => some ((winTwo s.arbTwo s).port, .low, winTwo s.arbTwo s)
  | none => none

/-- The arbiter's choice in FIXED mode (R161); it keeps no pointer state. -/
def chooseFixed (s : State) : Option (PortId × RingOne × RingTwo) :=
  ([PortId.ixa, .ixb, .mnt, .recorder].find? fun p => hasRequest p s).map fun p => (p, s.arbOne, s.arbTwo)

/-- The arbiter's choice in the mode in force. -/
def choose (s : State) : Option (PortId × RingOne × RingTwo) :=
  match s.arbMode with
  | .rotate => chooseRotate s
  | .fixed => chooseFixed s

/-- A hand-off is between its step 1 and its step 4 (R62). -/
def handOffUnderWay (s : State) : Bool :=
  match s.handOff with
  | some h => h.stage != .waiting
  | none => false

/-- The Request Engine takes a request: in RUNNING or UNCONFIGURED (R157), before a RESTART has been served
(R16), and not within a hand-off (R62). -/
def engineReady (s : State) : Bool :=
  s.live && s.part != .starting && !s.restartServed && !handOffUnderWay s

/-- What the engine takes next: the port, its oldest request, and the pointers after the choice (R157, R162). -/
def nextRequest (s : State) : Option (PortId × Request × RingOne × RingTwo) :=
  match choose s with
  | some (p, one, two) => (s.port p).queue.head?.map fun r => (p, r, one, two)
  | none => none

/-- The request removed from its queue and the pointers moved (R157, R160). -/
def takeRequest (p : PortId) (one : RingOne) (two : RingTwo) (s : State) : State :=
  { s.setPort p { s.port p with queue := (s.port p).queue.tail } with arbOne := one, arbTwo := two }

/-- An answer at the tail of a port's answer list (R155). -/
def placeAnswer (p : PortId) (a : Answer) (s : State) : State :=
  s.setPort p { s.port p with answers := (s.port p).answers ++ [a] }

/-- What a request's own rule gives: the state, the result and the answer's payload. -/
structure Reply where
  state : State
  result : ResultCode
  payload : List Byte

/-- A refusal that changes nothing and carries no payload (R181). -/
def refuse (result : ResultCode) (s : State) : Reply := ⟨s, result, []⟩

/-- OK with a payload. -/
def okay (payload : List Byte) (s : State) : Reply := ⟨s, .ok, payload⟩

/-- The three steps of R158: access right, part state, the request's own rule. -/
def examine (rule : PortId → Request → State → Reply) (p : PortId) (r : Request) (s : State) : Reply :=
  if permitted p r.kind then
    if s.part = .unconfigured ∧ servedUnconfigured r.kind = false then refuse .notConfigured s
    else rule p r s
  else refuse .notPermitted s

/-- How the answer of a served request counts: the OK of RESTART begins the warm start when sent (R16). -/
def answerKind (kind : RequestKind) (result : ResultCode) : AnswerKind :=
  if kind = .restart ∧ result = .ok then .servedRestart else .served

/-- One request served whole, and its answer placed (R157). -/
def serve (rule : PortId → Request → State → Reply) (p : PortId) (r : Request) (s : State) : State :=
  let reply := examine rule p r s
  placeAnswer p ⟨answerKind r.kind reply.result, r.tag, reply.result, reply.payload⟩ reply.state

/-- The request that the engine would take now is of this kind. -/
def engineTakes (kind : RequestKind) (s : State) : Bool :=
  engineReady s &&
    match nextRequest s with
    | some (_, r, _, _) => r.kind == kind
    | none => false

/-- The engine takes the next request and serves it by a rule. -/
def takeAndServe (rule : PortId → Request → State → Reply) (s : State) : State :=
  match nextRequest s with
  | some (p, r, one, two) => serve rule p r (takeRequest p one two s)
  | none => s

/-- A request command: the Request Engine takes a request of this kind and serves it (R157). Where the request
it would take is of another kind, or it takes none, the event does not occur (log 1, log 8). -/
def engineStep (kind : RequestKind) (rule : PortId → Request → State → Reply) (s : State) :
    Host.Outcome State Fault Refusal :=
  event (engineTakes kind s) (takeAndServe rule) s

/-- Payload byte `i` of a request. -/
def Request.byte (r : Request) (i : Nat) : Byte := byteAt r.payload i

end Sys2Proof.Machine
end

