-- ==== Sys2Proof/Machine/Resets.lean ====
section
/-! DEFINITION. Reset transactions and inhibits (chapter 6 and 5.7): SET_INHIBIT, PROPOSE_RESET, CONFIRM_RESET,
CANCEL_RESET and CONFIRM_WINDOW_EXPIRY. -/

namespace Sys2Proof.Machine

/-! ### SET INHIBIT (R93) -/

/-- The inhibit flag of a channel on a section. -/
def Section.inhibitOf (x : Section) (p : PortId) : Bool :=
  match p with
  | .ixa => x.inhibitA
  | .ixb => x.inhibitB
  | .mnt | .recorder => false

/-- The inhibit flag of a channel set: inhibit A for IXA, inhibit B for IXB (R93). -/
def Section.withInhibit (x : Section) (p : PortId) (on : Bool) : Section :=
  match p with
  | .ixa => { x with inhibitA := on }
  | .ixb => { x with inhibitB := on }
  | .mnt | .recorder => x

/-- The flag set, and, where it was off and is now on, any open transaction cancelled (R93, R116). -/
def setInhibitFlag (p : PortId) (n : SectionId) (on : Bool) (s : State) : State :=
  let t := s.setSec n ((s.sec n).withInhibit p on)
  if on && !(s.sec n).inhibitOf p then cancelFor .inhibited (fun _ => true) n t else t

/-- The rule of SET INHIBIT (R93). -/
def setInhibitRule (p : PortId) (r : Request) (s : State) : Reply :=
  match sectionOfByte (r.byte 0) with
  | none => refuse .range s
  | some n =>
    if r.byte 1 ≠ 0 ∧ r.byte 1 ≠ 1 then refuse .range s
    else if (s.sec n).mode = .unused then refuse .notPermitted s
    else okay [] (setInhibitFlag p n (r.byte 1 == 1) s)

/-- SET_INHIBIT (R93). -/
def execSetInhibit (s : State) : Host.Outcome State Fault Refusal := engineStep .setInhibit setInhibitRule s

/-! ### PROPOSE RESET (R104 to R106) -/

/-- The image permits a kind of reset for a section (R105 check 2). -/
def Section.permits (x : Section) (k : ResetKind) : Bool :=
  match x.cfg with
  | none => false
  | some c =>
    match k with
    | .preparatory => c.preparatory
    | .direct => c.direct

/-- A section is DISTURBED. -/
def Section.isDisturbed (x : Section) : Bool := x.mode.name == .disturbed

/-- Every point of the boundary list is IN_SYNC (R105 check 7, R109). -/
def allInSync (x : Section) (s : State) : Bool := x.boundary.all fun b => (s.point b.point).mode.name == .inSync

/-- Every point of the boundary list has H1 and H2 free (R105 check 8, R109). -/
def allHeadsFree (x : Section) (s : State) : Bool := !passageOf x s

/-- The number of OPEN slots. -/
def openSlots (s : State) : Nat := (allSlots.filter fun k => (s.slot k).isSome).length

/-- A FREE slot, the lowest (log 15: slots are not numbered towards the masters). -/
def freeSlot (s : State) : Option SlotId := allSlots.find? fun k => (s.slot k).isNone

/-- The number after `c`: from 255 to 1, skipping 0 (R103). -/
def nextNumber (c : Byte) : Byte := if c = 255 then 1 else c + 1

/-- A number of an open transaction. -/
def numberOpen (c : Byte) (s : State) : Bool := (txnOfNumber c s).isSome

/-- The number given to the next transaction (R103): the counter's value, advanced past open numbers as often as
needed. At most three others are open, so `fuel` 3 suffices. -/
def givenNumber (fuel : Nat) (c : Byte) (s : State) : Byte :=
  match fuel with
  | 0 => c
  | fuel + 1 => if numberOpen c s then givenNumber fuel (nextNumber c) s else c

/-- The transaction a proposal opens (R106). -/
def openedTxn (p : PortId) (n : SectionId) (k : ResetKind) (number : Byte) (window : Nat) : Txn :=
  ⟨number, n, k, p, p == .ixa, p == .ixb, window⟩

/-- The opening of a slot (R106): the slot, the section's open number, the counter, the PROPOSED record. -/
def openTransaction (p : PortId) (n : SectionId) (k : ResetKind) (slot : SlotId) (s : State) : State :=
  let number := givenNumber 3 s.txnCounter s
  let t := openedTxn p n k number s.confirmWindow
  append (resetRecord t (.proposed p))
    { setOpenTxn n (some number) (s.setSlot slot (some t)) with txnCounter := nextNumber number }

/-- Checks 2 to 9 of R105 in order, and the opening of R106. -/
def proposeChecked (p : PortId) (n : SectionId) (k : ResetKind) (s : State) : Reply :=
  let x := s.sec n
  if x.mode = .unused ∨ x.permits k = false then refuse .notPermitted s
  else if k = .direct ∧ p ≠ .mnt then refuse .notPermitted s
  else if x.isDisturbed = false then refuse .notNeeded s
  else if x.inhibitA ∨ x.inhibitB then refuse .inhibited s
  else
    match txnOfSection n s with
    | some (_, t) => ⟨s, .duplicate, [t.number]⟩
    | none =>
      if allInSync x s = false then refuse .notReady s
      else if k = .direct ∧ allHeadsFree x s = false then refuse .notReady s
      else if s.commitLimit ≤ openSlots s then refuse .tableFull s
      else
        match freeSlot s with
        | none => refuse .tableFull s
        | some slot => okay [givenNumber 3 s.txnCounter s] (openTransaction p n k slot s)

/-- The rule of PROPOSE RESET (R105): check 1, then the others. -/
def proposeResetRule (p : PortId) (r : Request) (s : State) : Reply :=
  match sectionOfByte (r.byte 0), resetKindOfByte (r.byte 1) with
  | some n, some k => proposeChecked p n k s
  | some _, none | none, _ => refuse .range s

/-- PROPOSE_RESET (R104 to R106). -/
def execProposeReset (s : State) : Host.Outcome State Fault Refusal := engineStep .proposeReset proposeResetRule s

/-! ### CONFIRM RESET (R107 to R110) -/

/-- The issuing channel is in the confirmation set. -/
def Txn.confirmedBy (t : Txn) (p : PortId) : Bool :=
  match p with
  | .ixa => t.byIxa
  | .ixb => t.byIxb
  | .mnt | .recorder => false

/-- The confirmation set with a channel added (R108). -/
def Txn.confirm (t : Txn) (p : PortId) : Txn :=
  match p with
  | .ixa => { t with byIxa := true }
  | .ixb => { t with byIxb := true }
  | .mnt | .recorder => t

/-- The completion check (R109). -/
def completionCheck (t : Txn) (s : State) : Bool :=
  let x := s.sec t.sec
  x.isDisturbed && !x.inhibitA && !x.inhibitB && allInSync x s &&
    (t.kind != .direct || (allHeadsFree x s && t.proposer == .mnt))

/-- The section record after a reset completion (R91). After a DIRECT one the passage flag is false (R70, R85,
R91: every boundary head is free; log 24), after a PREPARATORY one it is kept. -/
def completedSection (k : ResetKind) (x : Section) : Section :=
  { x with
    mode := (match k with
      | .preparatory => .prepared
      | .direct => .clear)
    passage := (match k with
      | .preparatory => x.passage
      | .direct => false)
    net := 0
    inTally := 0
    outTally := 0
    repeatCount := 0
    openTxn := none }

/-- A completion (R110): the COMPLETED record, the section's completion with its STATE record, the slot, the
attention outcome, in that order. -/
def completeTxn (k : SlotId) (t : Txn) (s : State) : State :=
  let u := append (resetRecord t .completed) s
  raiseReset t.proposer
    ((putSection t.sec (u.sec t.sec).mode (completedSection t.kind (u.sec t.sec)) u).setSlot k none)

/-- A confirmation added (R108): the set and the CONFIRMED record. -/
def addConfirmation (p : PortId) (k : SlotId) (t : Txn) (s : State) : State :=
  append (resetRecord t (.confirmed p)) (s.setSlot k (some (t.confirm p)))

/-- The rule of CONFIRM RESET (R107 to R109). -/
def confirmResetRule (p : PortId) (r : Request) (s : State) : Reply :=
  match txnOfNumber (r.byte 0) s with
  | none => refuse .unknownTxn s
  | some (k, t) =>
    if byteOf t.sec.val ≠ r.byte 1 then ⟨endTxn (.cancelled .mismatch) k t s, .mismatch, []⟩
    else if t.confirmedBy p then refuse .duplicate s
    else
      let u := t.confirm p
      let s1 := addConfirmation p k t s
      if u.byIxa && u.byIxb then
        if completionCheck u s1 then okay [0x01] (completeTxn k u s1)
        else ⟨endTxn (.cancelled .notReady) k u s1, .notReady, []⟩
      else okay [0x00] s1

/-- CONFIRM_RESET (R107). -/
def execConfirmReset (s : State) : Host.Outcome State Fault Refusal := engineStep .confirmReset confirmResetRule s

/-! ### CANCEL RESET (R112) and the window (R114) -/

/-- The rule of CANCEL RESET (R112). -/
def cancelResetRule (p : PortId) (r : Request) (s : State) : Reply :=
  match txnOfNumber (r.byte 0) s with
  | none => refuse .unknownTxn s
  | some (k, t) =>
    if p = .mnt ∧ t.proposer ≠ .mnt then refuse .notPermitted s
    else okay [] (endTxn (.cancelled .requested) k t s)

/-- CANCEL_RESET (R112). -/
def execCancelReset (s : State) : Host.Outcome State Fault Refusal := engineStep .cancelReset cancelResetRule s

/-- The window of the transaction in a slot has run out. -/
def windowDue (k : SlotId) (s : State) : Bool :=
  match s.slot k with
  | some t => t.window == 0
  | none => false

/-- The expiry of the transaction in a slot (R114). -/
def expireTxn (k : SlotId) (s : State) : State :=
  match s.slot k with
  | some t => endTxn .expired k t s
  | none => s

/-- CONFIRM_WINDOW_EXPIRY (R114). -/
def execConfirmWindowExpiry (k : SlotId) (s : State) : Host.Outcome State Fault Refusal :=
  event (s.inService && windowDue k s) (expireTxn k) s

end Sys2Proof.Machine
end

