-- ==== Sys2Proof/Machine/Reads.lean ====
section
/-! DEFINITION. Requests that read and view (1.7, 2.6, 3.7, 5.9, 8.8, 8.9): STATUS, SUMMARY, READ_SECTION,
READ_POINT, READ_LINE, SELECT_VIEW, READ_NEXT, CLEAR_STATISTICS; and RESTART (R16). -/

namespace Sys2Proof.Machine

/-! ### STATUS (R17) and SUMMARY (R100) -/

/-- The number of used points in a state. -/
def countPoints (name : PointName) (s : State) : Nat :=
  (s.points.toList.filter fun x => x.mode.name == name).length

/-- The status record (R17, 10.4). -/
def statusRecord (p : PortId) (s : State) : List Byte :=
  [partCode s.part, imageFaultCode s.imageFault] ++ be16 s.imageLabel.toNat ++ be32 s.time ++
    be32 s.journal.writeSeq ++ [byteOf (s.port p).errorLevel] ++ be16 (s.watch p).slipCount ++
    [byteOf (countPoints .hunt s), byteOf (countPoints .pending s), byteOf (countPoints .inSync s),
      byteOf (countPoints .faulted s), byteOf (countPoints .lost s)]

/-- The rule of STATUS (R17). -/
def statusRule (p : PortId) (_ : Request) (s : State) : Reply := okay (statusRecord p s) s

/-- STATUS (R17). -/
def execStatus (s : State) : Host.Outcome State Fault Refusal := engineStep .status statusRule s

/-- The verdict code of section `n` (R78, 10.4); 0 beyond the last section. -/
def verdictAt (n : Nat) (s : State) : Nat := if h : n < 24 then verdictCode (s.sec ⟨n, h⟩).mode.verdict else 0

/-- Byte 3 + k of the summary record: sections 4k to 4k + 3, two bits each (10.4). -/
def verdictByte (k : Nat) (s : State) : Byte :=
  byteOf (verdictAt (4 * k) s + 4 * verdictAt (4 * k + 1) s + 16 * verdictAt (4 * k + 2) s
    + 64 * verdictAt (4 * k + 3) s)

/-- The summary record (R100, 10.4). -/
def summaryRecord (s : State) : List Byte :=
  [partCode s.part] ++ be16 s.imageLabel.toNat ++ (List.range 6).map fun k => verdictByte k s

/-- The rule of SUMMARY (R100). -/
def summaryRule (_ : PortId) (_ : Request) (s : State) : Reply := okay (summaryRecord s) s

/-- SUMMARY (R100). -/
def execSummary (s : State) : Host.Outcome State Fault Refusal := engineStep .summary summaryRule s

/-! ### READ SECTION (R99) -/

/-- The flags byte of a section record (10.5). -/
def sectionFlags (x : Section) (c : SectionCfg) : Byte :=
  byteOf (bitAt 0 x.passage + bitAt 1 x.inhibitA + bitAt 2 x.inhibitB + bitAt 3 c.preparatory + bitAt 4 c.direct)

/-- The clearing time remaining, FFFFh outside CLEARING (10.5, R182). -/
def clearingBytes (m : SectionMode) : List Byte :=
  match m with
  | .clearing r => be16 r
  | .unused | .disturbed _ | .prepared | .sweeping | .occupied | .clear => absent16

/-- Six boundary entries of two bytes; those beyond the list carry FFh FFh (10.5). -/
def boundaryBytes (bs : List Boundary) : List Byte :=
  (List.range 6).flatMap fun i =>
    match bs[i]? with
    | some b => [byteOf b.point.val, sideCode b.side]
    | none => [0xFF, 0xFF]

/-- The section record of a used section (R99, 10.5). -/
def usedSectionRecord (n : SectionId) (x : Section) (c : SectionCfg) : List Byte :=
  [byteOf n.val, 0x01, sectionCode x.mode.name] ++ be16 x.net ++ be16 x.inTally ++ be16 x.outTally ++
    [sectionFlags x c, causeCode x.mode.cause, byteOf x.repeatCount] ++ clearingBytes x.mode ++
    [x.openTxn.getD 0] ++ be16 c.clearDelay ++ [byteOf x.boundary.length] ++ boundaryBytes x.boundary

/-- The section record of an unused section: every field after the used flag absent (R99, R182). -/
def unusedSectionRecord (n : SectionId) : List Byte :=
  [byteOf n.val, 0x00, sectionCode .unused] ++ absent16 ++ be16 0 ++ be16 0 ++ [0x00, 0x00, 0x00] ++ absent16 ++
    [0x00] ++ absent16 ++ [0x00] ++ boundaryBytes []

/-- The section record (R99, 10.5). -/
def sectionRecord (n : SectionId) (s : State) : List Byte :=
  match (s.sec n).cfg with
  | some c => usedSectionRecord n (s.sec n) c
  | none => unusedSectionRecord n

/-- The rule of READ SECTION (R99). -/
def readSectionRule (_ : PortId) (r : Request) (s : State) : Reply :=
  match sectionOfByte (r.byte 0) with
  | some n => okay (sectionRecord n s) s
  | none => refuse .range s

/-- READ_SECTION (R99). -/
def execReadSection (s : State) : Host.Outcome State Fault Refusal := engineStep .readSection readSectionRule s

/-! ### READ POINT (R57) -/

/-- Six statistics of two bytes, in the order of R56 (10.5). -/
def statsBytes (c : PointStats) : List Byte :=
  be16 c.accepted ++ be16 c.lost ++ be16 c.duplicates ++ be16 c.conflicts ++ be16 c.implausible ++
    be16 c.sequenceBreaks

/-- Expected sequence, baseline, history depth and candidate sequence, with their absent values (10.5). -/
def modeBytes (m : PointMode) : List Byte :=
  match m with
  | .inSync _ older bAB bBA e => [byteOf e.toNat, bAB, bBA, if older.isSome then 0x02 else 0x01, 0xFF]
  | .pending c => [0xFF, 0x00, 0x00, 0x00, byteOf c.seq.toNat]
  | .unused | .hunt | .faulted | .lost => [0xFF, 0x00, 0x00, 0x00, 0xFF]

/-- The flags byte of a point record (10.5). -/
def pointFlags (x : Point) : Byte :=
  byteOf (bitAt 0 x.h1 + bitAt 1 x.h2 + bitAt 2 x.fault1 + bitAt 3 x.fault2 + bitAt 4 x.warning)

/-- A two-byte time, FFFFh where its timer is stopped (10.5). -/
def timerBytes (t : Option Nat) : List Byte :=
  match t with
  | some r => be16 r
  | none => absent16

/-- A line number, FFh where absent (10.5). -/
def lineOrAbsent (l : Option LineId) : Byte :=
  match l with
  | some l => byteOf l.val
  | none => 0xFF

/-- The point record of a used point (R57, 10.5). -/
def usedPointRecord (d : PointId) (x : Point) (c : PointCfg) : List Byte :=
  [byteOf d.val, 0x01, pointCode x.mode.name, sectionOrNone c.sideA, sectionOrNone c.sideB, byteOf c.primary.val,
    byteOf c.secondary.val, byteOf c.axleLimit, byteOf c.gapLimit] ++ modeBytes x.mode ++
    [pointFlags x, lineOrAbsent x.lastLine, causeCode x.lastCause] ++ timerBytes x.silence ++ statsBytes x.stats

/-- The point record of an unused point: its statistics as held, every other field absent (R57). -/
def unusedPointRecord (d : PointId) (x : Point) : List Byte :=
  [byteOf d.val, 0x00, pointCode .unused, 0xFE, 0xFE, 0xFF, 0xFF, 0x00, 0xFF] ++ modeBytes .unused ++
    [0x00, 0xFF, 0x00] ++ absent16 ++ statsBytes x.stats

/-- The point record (R57, 10.5). -/
def pointRecord (d : PointId) (s : State) : List Byte :=
  match (s.point d).cfg with
  | some c => usedPointRecord d (s.point d) c
  | none => unusedPointRecord d (s.point d)

/-- The rule of READ POINT (R57). -/
def readPointRule (_ : PortId) (r : Request) (s : State) : Reply :=
  match pointOfByte (r.byte 0) with
  | some d => okay (pointRecord d s) s
  | none => refuse .range s

/-- READ_POINT (R57). -/
def execReadPoint (s : State) : Host.Outcome State Fault Refusal := engineStep .readPoint readPointRule s

/-! ### READ LINE (R31) -/

/-- The time since the last valid frame (R31): modulo 2^32, 65 535 at or above that or with none recorded. -/
def sinceLastValid (x : Line) (time : Word) : Nat :=
  match x.lastValid with
  | some t => min top16 (time - t).toNat
  | none => top16

/-- The line record (R31, 10.5). -/
def lineRecord (l : LineId) (s : State) : List Byte :=
  let x := s.line l
  [byteOf l.val, if x.up then 0x01 else 0x00] ++ be16 x.valid ++ be16 x.check ++ be16 x.timeout ++
    be16 x.lineError ++ be16 x.misrouted ++ be16 (sinceLastValid x s.time)

/-- The rule of READ LINE (R31). -/
def readLineRule (_ : PortId) (r : Request) (s : State) : Reply :=
  match lineOfByte (r.byte 0) with
  | some l => okay (lineRecord l s) s
  | none => refuse .range s

/-- READ_LINE (R31). -/
def execReadLine (s : State) : Host.Outcome State Fault Refusal := engineStep .readLine readLineRule s

/-! ### SELECT VIEW (R163) and READ NEXT (R164) -/

/-- The rule of SELECT VIEW (R163). -/
def selectViewRule (p : PortId) (r : Request) (s : State) : Reply :=
  match viewOfByte (r.byte 0) with
  | some v => okay [] (s.setPort p { s.port p with view := v, viewCursor := 0 })
  | none => refuse .range s

/-- SELECT_VIEW (R163). -/
def execSelectView (s : State) : Host.Outcome State Fault Refusal := engineStep .selectView selectViewRule s

/-- The last entry of a view (R164). -/
def lastEntry (v : View) : Nat :=
  match v with
  | .sections => 23
  | .points => 31
  | .lines => 3

/-- The record at an entry of a view (R164). -/
def viewRecord (v : View) (i : Nat) (s : State) : List Byte :=
  match v with
  | .sections => sectionRecord (Fin.ofNat 24 i) s
  | .points => pointRecord (Fin.ofNat 32 i) s
  | .lines => lineRecord (Fin.ofNat 4 i) s

/-- The rule of READ NEXT (R164): the wrap mark, then the record; the view cursor advances, or wraps to 0. -/
def readNextRule (p : PortId) (_ : Request) (s : State) : Reply :=
  let x := s.port p
  let wraps := lastEntry x.view ≤ x.viewCursor
  okay ((if wraps then 0x01 else 0x00) :: viewRecord x.view x.viewCursor s)
    (s.setPort p { x with viewCursor := if wraps then 0 else x.viewCursor + 1 })

/-- READ_NEXT (R164). -/
def execReadNext (s : State) : Host.Outcome State Fault Refusal := engineStep .readNext readNextRule s

/-! ### CLEAR STATISTICS (R165) and RESTART (R16) -/

/-- The five statistics of a line at 0 (R30, R165); the last valid frame time stays. -/
def Line.clearStats (x : Line) : Line :=
  { x with valid := 0, check := 0, timeout := 0, lineError := 0, misrouted := 0 }

/-- Every line and point statistic at 0 (R165). -/
def clearAllStats (s : State) : State :=
  { s with
    lines := tmap (fun _ x => x.clearStats) s.lines
    points := tmap (fun _ x => { x with stats := .zero }) s.points }

/-- The rule of CLEAR STATISTICS (R165). -/
def clearStatisticsRule (_ : PortId) (_ : Request) (s : State) : Reply := okay [] (clearAllStats s)

/-- CLEAR_STATISTICS (R165). -/
def execClearStatistics (s : State) : Host.Outcome State Fault Refusal :=
  engineStep .clearStatistics clearStatisticsRule s

/-- The rule of RESTART (R16): OK, and no further request is taken until the warm start. -/
def restartRule (_ : PortId) (_ : Request) (s : State) : Reply := okay [] { s with restartServed := true }

/-- RESTART (R16). -/
def execRestart (s : State) : Host.Outcome State Fault Refusal := engineStep .restart restartRule s

end Sys2Proof.Machine
end

