-- ==== Sys2Proof/Machine/JournalReads.lean ====
section
/-! DEFINITION. Reading the journal (7.4 to 7.6) and attention requests (9.3, 9.4): JOURNAL_READ, JOURNAL_SEEK,
IDENTIFY, SET_MASK, DWELL_TIMER_EXPIRY. -/

namespace Sys2Proof.Machine

/-! ### JOURNAL READ (R135 to R137) -/

/-- The number of items asked for, clamped (R135): 0 is taken as 1, 5 to 255 as 4. -/
def itemsAsked (b : Byte) : Nat := max 1 (min 4 b.toNat)

/-- The bytes of the record that a sequence number names. A place that holds none gives no bytes; no unread
record has such a place (R132). -/
def recordAt (j : Journal) (seq : Word) : List Byte :=
  match j.at seq with
  | some r => recordBytes r
  | none => []

/-- The bytes of `n` records from the cursor in ascending sequence (R136). -/
def recordsFrom (j : Journal) (cursor : Word) (n : Nat) : List Byte :=
  (List.range n).flatMap fun i => recordAt j (cursor + BitVec.ofNat 32 i)

/-- How many records a read returns (R136): one for each remaining item, as far as the unread count allows. -/
def recordsRead (asked : Nat) (writeSeq : Word) (x : Watch) : Nat :=
  min (if x.slipCount = 0 then asked else asked - 1) (unread writeSeq x)

/-- The SLIP item of a read, if one is due (R136, R137). -/
def slipItem (time : Word) (x : Watch) : List Byte :=
  if x.slipCount = 0 then [] else slipBytes x.cursor time x.slipCount

/-- The reading state after a read (R136): the slip count reported, the cursor advanced, the dwell timer
restarted. -/
def readWatch (asked : Nat) (writeSeq : Word) (x : Watch) : Watch :=
  restartDwell
    { x with slipCount := 0, cursor := x.cursor + BitVec.ofNat 32 (recordsRead asked writeSeq x) }

/-- The rule of JOURNAL READ (R135, R136). -/
def journalReadRule (p : PortId) (r : Request) (s : State) : Reply :=
  let x := s.watch p
  let w := s.journal.writeSeq
  let asked := itemsAsked (r.byte 0)
  let t := s.setWatch p (readWatch asked w x)
  if x.slipCount = 0 ∧ unread w x = 0 then ⟨t, .empty, []⟩
  else okay (slipItem s.time x ++ recordsFrom s.journal x.cursor (recordsRead asked w x)) t

/-- JOURNAL_READ (R136). -/
def execJournalRead (s : State) : Host.Outcome State Fault Refusal := engineStep .journalRead journalReadRule s

/-! ### JOURNAL SEEK (R138) -/

/-- Where a seek goes (R138): 0 for OLDEST, 1 for NEWEST. -/
def seekTarget (b : Byte) (j : Journal) : Option Word :=
  if b = 0 then some j.oldest else if b = 1 then some j.writeSeq else none

/-- The rule of JOURNAL SEEK (R138). -/
def journalSeekRule (p : PortId) (r : Request) (s : State) : Reply :=
  match seekTarget (r.byte 0) s.journal with
  | none => refuse .range s
  | some c => okay (be32 c) (s.setWatch p (restartDwell { s.watch p with cursor := c, slipCount := 0 }))

/-- JOURNAL_SEEK (R138). -/
def execJournalSeek (s : State) : Host.Outcome State Fault Refusal := engineStep .journalSeek journalSeekRule s

/-! ### IDENTIFY (R175) -/

/-- The five causes in order of priority, which is the order of their bits (9, 10.7). -/
inductive AttnCause where
  | link | sectionChange | reset | level | dwell
  deriving DecidableEq, Repr

/-- The bit of a cause (10.7). -/
def AttnCause.bit (c : AttnCause) : Nat :=
  match c with
  | .link => 0
  | .sectionChange => 1
  | .reset => 2
  | .level => 3
  | .dwell => 4

/-- The code of a cause identified; NONE is 00h (10.7). -/
def attnCauseCode (c : Option AttnCause) : Byte :=
  match c with
  | none => 0x00
  | some c => byteOf (c.bit + 1)

/-- The first cause in priority that is both pending and unmasked (R175). -/
def identified (writeSeq : Word) (x : Watch) : Option AttnCause :=
  [AttnCause.link, .sectionChange, .reset, .level, .dwell].find? fun c =>
    (pendingCauses writeSeq x &&& x.mask).getLsbD c.bit

/-- The latch of the cause identified cleared; LEVEL has none (R175). -/
def clearCause (c : Option AttnCause) (x : Watch) : Watch :=
  match c with
  | some .link => { x with latchLink := false }
  | some .sectionChange => { x with latchSection := false }
  | some .reset => { x with latchReset := false }
  | some .dwell => { x with latchDwell := false }
  | some .level | none => x

/-- The IDENTIFY answer, taken after the clearing (R175, 10.7). -/
def identifyRecord (c : Option AttnCause) (writeSeq : Word) (x : Watch) : List Byte :=
  [attnCauseCode c, (pendingCauses writeSeq x).setWidth 8, x.mask.setWidth 8] ++ be16 (unread writeSeq x)

/-- The rule of IDENTIFY (R175). -/
def identifyRule (p : PortId) (_ : Request) (s : State) : Reply :=
  let c := identified s.journal.writeSeq (s.watch p)
  let x := clearCause c (s.watch p)
  okay (identifyRecord c s.journal.writeSeq x) (s.setWatch p x)

/-- IDENTIFY (R175). -/
def execIdentify (s : State) : Host.Outcome State Fault Refusal := engineStep .identify identifyRule s

/-! ### SET MASK (R174) -/

/-- The rule of SET MASK (R174): the five bits carried; the other three are ignored. -/
def setMaskRule (p : PortId) (r : Request) (s : State) : Reply :=
  let m : BitVec 5 := (r.byte 0).setWidth 5
  okay [m.setWidth 8] (s.setWatch p { s.watch p with mask := m })

/-- SET_MASK (R174). -/
def execSetMask (s : State) : Host.Outcome State Fault Refusal := engineStep .setMask setMaskRule s

/-! ### The dwell timer (R140, R173) -/

/-- The expiry of a dwell timer (R140): the DWELL latch if records are unread; the timer stops. -/
def dwellExpired (writeSeq : Word) (x : Watch) : Watch :=
  { x with dwell := none, latchDwell := x.latchDwell || decide (0 < unread writeSeq x) }

/-- DWELL_TIMER_EXPIRY (R140). -/
def execDwellTimerExpiry (p : PortId) (s : State) : Host.Outcome State Fault Refusal :=
  event (s.live && timerDue (s.watch p).dwell)
    (fun s => s.setWatch p (dwellExpired s.journal.writeSeq (s.watch p))) s

end Sys2Proof.Machine
end

