-- ==== Sys2Proof/Machine/PortLink.lean ====
section
/-! DEFINITION. The link side of a master port (8.2 to 8.5): reception, valid frames, the error level and
isolation, breaks, immediate answers. -/

namespace Sys2Proof.Machine

/-! ### The error level and isolation (8.4) -/

/-- The queue dropped without answer, and the outstanding slots of its requests freed (R148, R152). -/
def Port.dropQueue (x : Port) : Port := { x with queue := [], outstanding := x.outstanding - x.queue.length }

/-- The isolation of a port (R152): the queue is dropped, then the ISOLATED record is written (R167). -/
def isolate (p : PortId) (s : State) : State :=
  append (.port p .isolated) (s.setPort p { (s.port p).dropQueue with isolated := true })

/-- An ACTIVE port whose threshold is not 0 and whose level has reached it (R152). -/
def Port.mustIsolate (x : Port) : Bool := !x.isolated && x.threshold != 0 && decide (x.threshold ≤ x.errorLevel)

/-- A link error (R151): the error level rises, the LINK latch is set (R169), and the port is isolated if its
threshold is reached. -/
def linkError (p : PortId) (s : State) : State :=
  let t := setLinkLatch p (s.setPort p { s.port p with errorLevel := satAdd top8 (s.port p).errorLevel 1 })
  if (t.port p).mustIsolate then isolate p t else t

/-- A frame accepted on an ACTIVE port lowers the level by one, not below 0 (R151). -/
def lowerError (p : PortId) (s : State) : State :=
  s.setPort p { s.port p with errorLevel := (s.port p).errorLevel - 1 }

/-- A discarded frame (R147): the assembler returns to SEARCH, and the link error counts. -/
def discardFrame (p : PortId) (s : State) : State :=
  linkError p (s.setPort p { s.port p with asm := (s.port p).asm.toSearch })

/-! ### Valid frames (8.3) -/

/-- The number of immediate answers in a port's list (R155). -/
def immediateCount (x : Port) : Nat := (x.answers.filter fun a => a.kind == .immediate).length

/-- The answer list has room for an immediate answer (R155). -/
def immediateRoom (p : PortId) (s : State) : Bool := decide (immediateCount (s.port p) < maxImmediate)

/-- An immediate answer: no slot, no payload (R154, R155, R181). -/
def immediate (p : PortId) (tag : Byte) (result : ResultCode) (s : State) : State :=
  placeAnswer p ⟨.immediate, tag, result, []⟩ s

/-- A frame accepted with an immediate answer (rows 4 and 5 of R150). -/
def answerAtOnce (p : PortId) (tag : Byte) (result : ResultCode) (s : State) : State :=
  immediate p tag result (lowerError p s)

/-- BAD_REQUEST (R149): answered, then the link error counts. -/
def badRequest (p : PortId) (tag : Byte) (s : State) : State := linkError p (immediate p tag .badRequest s)

/-- REJOIN at the port (R153): an ISOLATED port becomes ACTIVE with error level 0, with a REJOINED record; an
ACTIVE one lowers its level. Either way the answer is OK. -/
def rejoinPort (p : PortId) (tag : Byte) (s : State) : State :=
  if (s.port p).isolated then
    append (.port p .rejoined)
      (immediate p tag .ok (s.setPort p { s.port p with isolated := false, errorLevel := 0 }))
  else answerAtOnce p tag .ok s

/-- A request accepted into the queue (row 6 of R150). -/
def acceptRequest (p : PortId) (r : Request) (s : State) : State :=
  let t := lowerError p s
  t.setPort p { t.port p with queue := (t.port p).queue ++ [r], outstanding := (t.port p).outstanding + 1 }

/-- An effect that needs an immediate answer: where the list has no room, the frame is discarded without answer,
its effect is not carried out, and it counts as a link error (R155). -/
def needsRoom (p : PortId) (effect : State → State) (s : State) : State :=
  if immediateRoom p s then effect s else linkError p s

/-- A well-formed request at an ACTIVE port, or a REJOIN at any: rows 3 to 6 of R150. -/
def handleRequest (p : PortId) (r : Request) (s : State) : State :=
  if r.kind = .rejoin then needsRoom p (rejoinPort p r.tag) s
  else if s.part = .starting then needsRoom p (answerAtOnce p r.tag .starting) s
  else if maxOutstanding ≤ (s.port p).outstanding then needsRoom p (answerAtOnce p r.tag .busy) s
  else acceptRequest p r s

/-- A valid frame at the port, in the order of R150. `r` is the request if the frame is well formed (R149). -/
def handleFrame (p : PortId) (tag : Byte) (r : Option Request) (s : State) : State :=
  match r with
  | some r =>
    if (s.port p).isolated ∧ r.kind ≠ .rejoin then s else handleRequest p r s
  | none => if (s.port p).isolated then s else needsRoom p (badRequest p tag) s

/-! ### Reception (8.2) -/

/-- The payload length a frame in collection announces: its third byte after the marker. -/
def announced (held : List Byte) : Nat := (byteAt held 2).toNat

/-- The bytes a CRC covers: tag, code, length and payload (R180). -/
def covered (held : List Byte) : List Byte := held.take (3 + announced held)

/-- The CRC of a complete request frame agrees (R145, R180). -/
def requestGood (held : List Byte) : Bool :=
  crc16 (covered held) == halfAt held (3 + announced held)

/-- A complete frame (R145): handled as valid, or discarded on a CRC mismatch. -/
def completeFrame (p : PortId) (held : List Byte) (s : State) : State :=
  if requestGood held then
    handleFrame p (byteAt held 0)
      (requestOfFrame (byteAt held 0) (byteAt held 1) ((held.drop 3).take (announced held))) s
  else discardFrame p s

/-- A good character in COLLECT, with the bytes held after it (R145): a payload length above 12 abandons the
frame when that byte is received; the frame is complete with 5 + length bytes. -/
def collected (p : PortId) (held : List Byte) (s : State) : State :=
  if held.length = 3 ∧ maxRequestPayload < announced held then discardFrame p s
  else if 3 ≤ held.length ∧ 5 + announced held ≤ held.length then
    completeFrame p held (s.setPort p { s.port p with asm := (s.port p).asm.toSearch })
  else s

/-- A good character in the frame assembler of a port (R145). -/
def portCharacter (p : PortId) (b : Byte) (s : State) : State :=
  let x := s.port p
  match x.asm.state with
  | .search => if b = requestMarker then s.setPort p { x with asm := x.asm.begin portGapTime } else s
  | .collect =>
    let stored := x.asm.store portGapTime b
    collected p stored.held (s.setPort p { x with asm := stored })

/-- The receiver of a port takes a character: the reset input is high (R144) and no break is in progress
(R148). -/
def portTakes (p : PortId) (s : State) : Bool := s.live && !(s.port p).asm.breakFlag

/-- PORT_GOOD_CHARACTER (R145). -/
def execPortGoodCharacter (p : PortId) (b : Byte) (s : State) : Host.Outcome State Fault Refusal :=
  event (portTakes p s) (portCharacter p b) s

/-- REJOIN (R153): a well-formed REJOIN frame with this tag, received whole, is handled at the port. Its six
characters find and leave the assembler in SEARCH (log 9). -/
def execRejoin (p : PortId) (tag : Byte) (s : State) : Host.Outcome State Fault Refusal :=
  event (portTakes p s && (s.port p).asm.state == .search) (handleFrame p tag (some ⟨.rejoin, tag, []⟩)) s

/-- PORT_FRAMING_ERROR (R147): a discarded frame of kind LINE_ERROR, in SEARCH or COLLECT. -/
def execPortFramingError (p : PortId) (s : State) : Host.Outcome State Fault Refusal :=
  event (portTakes p s) (discardFrame p) s

/-- PORT_GAP_TIMEOUT (R146): a discarded frame of kind TIMEOUT. -/
def execPortGapTimeout (p : PortId) (s : State) : Host.Outcome State Fault Refusal :=
  event (s.live && (s.port p).asm.state == .collect && timerDue (s.port p).asm.gap) (discardFrame p) s

/-- A port link reset (R148): SEARCH with the break flag set, the queue dropped, a LINK_RESET record. -/
def linkReset (p : PortId) (s : State) : State :=
  let x := (s.port p).dropQueue
  append (.port p .linkReset) (s.setPort p { x with asm := { x.asm.toSearch with breakFlag := true } })

/-- PORT_BREAK (R148). A break of any length is one port link reset. -/
def execPortBreak (p : PortId) (s : State) : Host.Outcome State Fault Refusal :=
  event (portTakes p s) (linkReset p) s

/-- PORT_BREAK_END (R148, R12): the break flag clears. -/
def execPortBreakEnd (p : PortId) (s : State) : Host.Outcome State Fault Refusal :=
  event (s.live && (s.port p).asm.breakFlag)
    (fun s => s.setPort p { s.port p with asm := { (s.port p).asm.toSearch with breakFlag := false } }) s

/-! ### Transmission (R156) -/

/-- An answer as one frame on the line (R156, 10.3). -/
def answerFrame (a : Answer) : List Byte :=
  let body := [a.tag, resultByte a.result, byteOf a.payload.length] ++ a.payload
  [answerMarker] ++ body ++ crcBytes (crc16 body)

/-- The frame a port is sending: that of the head of its answer list (R156, log 13). -/
def transmitting (p : PortId) (s : State) : Option (List Byte) :=
  if s.resetLow then none else (s.port p).answers.head?.map answerFrame

/-- The number of answers that hold an outstanding slot (R154). -/
def slotAnswers (as : List Answer) : Nat := (as.filter fun a => a.kind != .immediate).length

/-- The head of the answer list sent (R154, R156): removed, its slot freed, and a change of rate that waited for
it taken (R14). -/
def Port.sent (x : Port) : Port :=
  { x with
    answers := x.answers.tail
    outstanding := x.outstanding - slotAnswers (x.answers.take 1)
    txRate := x.rxRate }

end Sys2Proof.Machine
end

