-- ==== Sys2Proof/Machine/Image.lean ====
section
/-! DEFINITION. The configuration image (1.4, 10.9): its fields, the five checks of a load, and what a good image
gives the blocks. -/

namespace Sys2Proof.Machine

/-- The 270 bytes the memory presents in one sequential read (R6); a byte the operand lacks is FFh, as an absent
memory presents it. -/
def presented (image : List Byte) : List Byte := (image ++ List.replicate 270 0xFF).take 270

/-! ### Fields (10.9) -/

/-- Byte `i` of the image as a number. -/
def imageNat (img : List Byte) (i : Nat) : Nat := (byteAt img i).toNat

/-- The first byte of a point entry: point d from byte 12 + 6d. -/
def pointBase (d : PointId) : Nat := 12 + 6 * d.val

/-- The first byte of a section entry: section s from byte 204 + 2s. -/
def sectionBase (n : SectionId) : Nat := 204 + 2 * n.val

/-- The first byte of a port entry: IXA at 252, then every 4 bytes. -/
def portBase (p : PortId) : Nat := 252 + 4 * (portIndex p).val

/-- The image label. -/
def labelOf (img : List Byte) : Half := halfAt img 3

/-- Used bit of a point entry. -/
def pointUsed (img : List Byte) (d : PointId) : Bool := decide (128 ≤ imageNat img (pointBase d))

/-- Used bit of a section entry. -/
def sectionUsed (img : List Byte) (n : SectionId) : Bool := decide (128 ≤ imageNat img (sectionBase n))

/-- The high four bits of a byte. -/
def highNibble (n : Nat) : Nat := n / 16

/-- The low four bits of a byte. -/
def lowNibble (n : Nat) : Nat := n % 16

/-- A side byte in its range: 0–23, or FFh for NONE (R184). -/
def sideInRange (n : Nat) : Bool := decide (n < 24) || n == 255

/-- The last field of a port entry, bits 15 to 0. -/
def portWord (img : List Byte) (p : PortId) : Nat :=
  256 * imageNat img (portBase p + 2) + imageNat img (portBase p + 3)

/-- The dwell code of a port entry, bits 8–0. -/
def dwellCode (img : List Byte) (p : PortId) : Nat := portWord img p % 512

/-! ### The checks (R7 to R9, R184) -/

/-- Check 1: the marker, compared as three bytes (R184). -/
def markerOk (img : List Byte) : Bool := img.take 3 == [0x9E, 0x24, 0x32]

/-- Check 2: the length, one 16-bit value (R184). -/
def lengthOk (img : List Byte) : Bool := halfAt img 5 == 270

/-- Check 3: the CRC-16 over bytes 0–267 (R7, R180). -/
def crcOk (img : List Byte) : Bool := crc16 (img.take 268) == halfAt img 268

/-- The global settings in range (R8, R184). -/
def globalInRange (img : List Byte) : Bool :=
  decide (imageNat img 7 ≤ 2) && decide (imageNat img 8 ≤ 2) && decide (2 ≤ imageNat img 9)
    && decide (imageNat img 9 ≤ 60) && decide (1 ≤ imageNat img 10) && decide (imageNat img 10 ≤ 4)
    && decide (imageNat img 11 ≤ 1)

/-- A point entry in range: an unused one always, a used one by R184. -/
def pointInRange (img : List Byte) (d : PointId) : Bool :=
  let at_ := fun k => imageNat img (pointBase d + k)
  !pointUsed img d ||
    (decide (highNibble (at_ 0) = 8) && decide (1 ≤ lowNibble (at_ 0)) && sideInRange (at_ 1) && sideInRange (at_ 2)
      && decide (4 ≤ at_ 4) && decide (at_ 4 ≤ 50) && decide (2 ≤ highNibble (at_ 5)) && decide (lowNibble (at_ 5) ≤ 5))

/-- A section entry in range (R184). -/
def sectionInRange (img : List Byte) (n : SectionId) : Bool :=
  !sectionUsed img n ||
    (decide (imageNat img (sectionBase n) ≤ 131) && decide (imageNat img (sectionBase n) % 4 ≠ 0)
      && decide (imageNat img (sectionBase n + 1) ≤ 200))

/-- A port entry in range (R184): bits 13–9 of the last field 0, the dwell code in 5–500. -/
def portInRange (img : List Byte) (p : PortId) : Bool :=
  decide (portWord img p % 16384 < 512) && decide (5 ≤ dwellCode img p) && decide (dwellCode img p ≤ 500)

/-- The four ports in order. -/
def allPorts : List PortId := [.ixa, .ixb, .mnt, .recorder]

/-- Check 4: every field checked for range lies in its range (R8). -/
def rangeOk (img : List Byte) : Bool :=
  globalInRange img && allPorts.all (portInRange img) && (List.finRange 32).all (pointInRange img)
    && (List.finRange 24).all (sectionInRange img)

/-- The section a side byte names; FFh is NONE. -/
def sideOf (b : Byte) : Option SectionId := sectionOfByte b

/-- The image entry of a used point as the blocks take it (R10, R184). -/
def pointCfgOf (img : List Byte) (d : PointId) : PointCfg where
  sideA := sideOf (byteAt img (pointBase d + 1))
  sideB := sideOf (byteAt img (pointBase d + 2))
  primary := Fin.ofNat 4 (highNibble (imageNat img (pointBase d + 3)))
  secondary := Fin.ofNat 4 (lowNibble (imageNat img (pointBase d + 3)))
  axleLimit := lowNibble (imageNat img (pointBase d))
  period := 5 * imageNat img (pointBase d + 4)
  silenceLimit := highNibble (imageNat img (pointBase d + 5))
  gapLimit := lowNibble (imageNat img (pointBase d + 5))

/-- The image entry of a used section (R10, R184). -/
def sectionCfgOf (img : List Byte) (n : SectionId) : SectionCfg where
  preparatory := (byteAt img (sectionBase n)).getLsbD 0
  direct := (byteAt img (sectionBase n)).getLsbD 1
  clearDelay := 10 * imageNat img (sectionBase n + 1)

/-- The context parameters of a point: none where the image does not use it. -/
def pointEntry (img : List Byte) (d : PointId) : Option PointCfg :=
  if pointUsed img d then some (pointCfgOf img d) else none

/-- The record parameters of a section: none where the image does not use it. -/
def sectionEntry (img : List Byte) (n : SectionId) : Option SectionCfg :=
  if sectionUsed img n then some (sectionCfgOf img n) else none

/-- The side on which a point names a section, if it does (R3). -/
def PointCfg.sideNaming (c : PointCfg) (n : SectionId) : Option Side :=
  if c.sideA = some n then some .a else if c.sideB = some n then some .b else none

/-- The boundary list of a section: the used points that name it, in ascending order, each with the side (R3). -/
def boundaryOf (img : List Byte) (n : SectionId) : List Boundary :=
  (List.finRange 32).filterMap fun d =>
    ((pointEntry img d).bind fun c => c.sideNaming n).map fun side => ⟨d, side⟩

/-- A side of a used point names a used section or NONE (R9). -/
def sideConsistent (img : List Byte) (x : Option SectionId) : Bool :=
  match x with
  | some n => sectionUsed img n
  | none => true

/-- A used point without any failing of R9: sides that differ, not both NONE, naming used sections, lines 0–3. -/
def pointConsistent (img : List Byte) (d : PointId) : Bool :=
  let c := pointCfgOf img d
  let lines := imageNat img (pointBase d + 3)
  !pointUsed img d ||
    (c.sideA != c.sideB && sideConsistent img c.sideA && sideConsistent img c.sideB
      && decide (highNibble lines ≤ 3) && decide (lowNibble lines ≤ 3))

/-- A used section is named by one to six used points (R9). -/
def sectionConsistent (img : List Byte) (n : SectionId) : Bool :=
  !sectionUsed img n || (decide (1 ≤ (boundaryOf img n).length) && decide ((boundaryOf img n).length ≤ 6))

/-- Check 5: the track plan is consistent (R9). -/
def topologyOk (img : List Byte) : Bool :=
  (List.finRange 32).all (pointConsistent img) && (List.finRange 24).all (sectionConsistent img)

/-- The image fault code of a load: the first check that fails (R7). -/
def imageFaultOf (img : List Byte) : ImageFault :=
  if !markerOk img then .noImage
  else if !lengthOk img then .length
  else if !crcOk img then .check
  else if !rangeOk img then .range
  else if !topologyOk img then .topology
  else .none

/-- The label kept after a load: the one read, and 0000h after NO_IMAGE (R7). -/
def keptLabel (img : List Byte) : Half := if markerOk img then labelOf img else 0

/-! ### Settings (R10, R184) -/

/-- The trackside line rate of a code in range. -/
def lineRateOf (img : List Byte) : LineRate :=
  match imageNat img 7 with
  | 0 => .r38400
  | 1 => .r57600
  | _ => .r115200

/-- The port rate of a code in range. -/
def portRateOf (img : List Byte) : PortRate :=
  match imageNat img 8 with
  | 0 => .r57600
  | 1 => .r115200
  | _ => .r230400

/-- The arbiter mode of a code in range. -/
def arbModeOf (img : List Byte) : ArbMode :=
  match imageNat img 11 with
  | 0 => .rotate
  | _ => .fixed

/-- The confirm window in ms. -/
def confirmWindowOf (img : List Byte) : Nat := 1000 * imageNat img 9

/-- The trigger level of a port: code 0 for 1, 1 for 8, 2 for 64, 3 for 256 records (10.9). -/
def triggerOf (img : List Byte) (p : PortId) : Nat :=
  match portWord img p / 16384 with
  | 0 => 1
  | 1 => 8
  | 2 => 64
  | _ => 256

/-- The dwell time of a port in ms. -/
def dwellTimeOf (img : List Byte) (p : PortId) : Nat := 10 * dwellCode img p

/-- The default mask of a port; bits 7–5 are ignored (R8). -/
def maskOf (img : List Byte) (p : PortId) : BitVec 5 := (byteAt img (portBase p)).setWidth 5

/-- The isolation threshold of a port. -/
def thresholdOf (img : List Byte) (p : PortId) : Nat := imageNat img (portBase p + 1)

end Sys2Proof.Machine
end

