-- ==== Sys2Proof/Machine/Starts.lean ====
section
/-! DEFINITION. The starts and the Time Base (1.3 to 1.6): RESET_INPUT_LOW, COLD_START, LOAD_END, WARM_START,
ANSWER_SENT and TIME_BASE_MILLISECOND. -/

namespace Sys2Proof.Machine

/-! ### Reset input (R11) -/

/-- RESET_INPUT_LOW (R11): the part is held inactive; the memory port is idle, the attention lines deasserted. -/
def execResetInputLow (s : State) : Host.Outcome State Fault Refusal :=
  event true (fun s => { s with resetLow := true, memSelect := false }) s

/-- The level of one port's receive line at the release (R12). -/
def lineLow (x : PortLevels) (p : PortId) : Bool :=
  match p with
  | .ixa => x.ixaLow
  | .ixb => x.ixbLow
  | .mnt => x.mntLow
  | .recorder => x.recLow

/-- A port after a cold start: a receive line that is low is taken as in a break (R12). -/
def coldPort (low : Bool) : Port := { Port.cold with asm := { Assembler.idle with breakFlag := low } }

/-! ### What a start abandons -/

/-- A context out of service: every field but the image parameters and the statistics given up (R12, R16, R33). -/
def Point.abandoned (x : Point) : Point := { Point.cold with cfg := x.cfg, stats := x.stats }

/-- A record out of service: every field but the image parameters given up (R10, R12, R16, R77). -/
def Section.abandoned (x : Section) : Section := { Section.cold with cfg := x.cfg }

/-- A receiver turned off: DOWN without a LINE record, its frame and its deliveries abandoned; the statistics and
the last valid frame time are kept (R16, R29, R30). -/
def Line.off (x : Line) : Line := { x with up := false, silence := none, asm := .idle, deliveries := [] }

/-! ### Cold start (R12) -/

/-- The state of R12. The image parameters of the contexts and of the records, and the other values of R10 that R12
does not set, hold until the next load ends (R10, R33). -/
def coldStart (low : PortLevels) (s : State) : State :=
  { s with
    resetLow := false
    part := .starting
    startKind := .cold
    imageFault := .none
    imageLabel := 0
    time := 0
    memSelect := true
    lines := tbuild fun _ => .cold
    points := tmap (fun _ x => { x.abandoned with stats := .zero }) s.points
    handOff := none
    sections := tmap (fun _ x => x.abandoned) s.sections
    slots := tbuild fun _ => none
    journal := .empty
    ports := tbuild fun i => coldPort (lineLow low (portOfIndex i))
    watches := tbuild fun _ => .cold
    restartServed := false }

/-- COLD_START (R12): the release of the reset input, or power-up; it is taken in every state (R11). -/
def execColdStart (low : PortLevels) (s : State) : Host.Outcome State Fault Refusal :=
  event true (coldStart low) s

/-! ### Warm start (R16) -/

/-- How many answers of a port's list are in transmission when a warm start begins: the head on every port but
MNT, whose OK has just left and whose next answer has not begun (R16, R156). -/
def inTransmission (p : PortId) : Nat := if p = .mnt then 0 else 1

/-- The answers not begun in transmission dropped, and their slots freed (R16, R154). -/
def Port.dropUnsent (keep : Nat) (x : Port) : Port :=
  { x with
    answers := x.answers.take keep
    outstanding := x.outstanding - slotAnswers (x.answers.drop keep) }

/-- A port at the beginning of a warm start (R16). -/
def warmPort (p : PortId) (x : Port) : Port :=
  { x.dropQueue.dropUnsent (inTransmission p) with
    isolated := false
    errorLevel := 0
    view := .sections
    viewCursor := 0
    threshold := defaultThreshold }

/-- Reading and attention state at the beginning of a warm start (R16, R140, R168): latches clear, defaults in
force, the dwell timer started with the default; cursor and slip count kept. -/
def warmWatch (x : Watch) : Watch :=
  { x with
    dwell := some defaultDwellTime
    dwellTime := defaultDwellTime
    trigger := defaultTrigger
    mask := defaultMask
    latchLink := false
    latchSection := false
    latchReset := false
    latchDwell := false }

/-- The warm start (R16), MNT's OK answer having left. -/
def warmStart (s : State) : State :=
  { s with
    part := .starting
    startKind := .warm
    memSelect := true
    lines := tmap (fun _ x => x.off) s.lines
    points := tmap (fun _ x => x.abandoned) s.points
    handOff := none
    sections := tmap (fun _ x => x.abandoned) s.sections
    slots := tbuild fun _ => none
    ports := tmap (fun i x => warmPort (portOfIndex i) x) s.ports
    watches := tmap (fun _ x => warmWatch x) s.watches
    restartServed := false }

/-- The head of a port's answer list has been sent (R156). -/
def sendHead (p : PortId) (s : State) : State := s.setPort p (s.port p).sent

/-- The answer that MNT is sending is the OK of RESTART (R16). -/
def restartSending (s : State) : Bool :=
  match (s.port .mnt).answers with
  | a :: _ => a.kind == .servedRestart
  | [] => false

/-- The last byte of MNT's OK to RESTART leaves, and the warm start begins (R16). -/
def restartSent (s : State) : State := warmStart (sendHead .mnt s)

/-- WARM_START (R16). -/
def execWarmStart (s : State) : Host.Outcome State Fault Refusal :=
  event (s.live && restartSending s) restartSent s

/-- ANSWER_SENT (R156). Where the answer is MNT's OK to RESTART, its last byte begins the warm start (R16,
log 14). -/
def execAnswerSent (p : PortId) (s : State) : Host.Outcome State Fault Refusal :=
  event (s.live && !(s.port p).answers.isEmpty)
    (if p = .mnt ∧ restartSending s then restartSent else sendHead p) s

/-! ### The end of a load (R7, R14, R15) -/

/-- A port takes a rate (R14): where it is a change, the receiver changes at once and abandons its frame without
counting; the transmitter changes now, or when its current answer has been sent. -/
def Port.takeRate (rate : PortRate) (x : Port) : Port :=
  { x with
    rxRate := rate
    asm := if x.rxRate = rate then x.asm else x.asm.toSearch
    txRate := if x.answers.isEmpty then rate else x.txRate }

/-- A context at entry to RUNNING (R14, R33): HUNT where used, UNUSED where not; the statistics kept. -/
def startPoint (img : List Byte) (d : PointId) (x : Point) : Point :=
  { Point.cold with
    cfg := pointEntry img d
    mode := if pointUsed img d then .hunt else .unused
    stats := x.stats }

/-- A record at entry to RUNNING (R14, R77): DISTURBED with cause START where used, UNUSED where not. -/
def startSection (img : List Byte) (n : SectionId) : Section :=
  { Section.cold with
    cfg := sectionEntry img n
    mode := if sectionUsed img n then .disturbed .start else .unused
    boundary := if sectionUsed img n then boundaryOf img n else [] }

/-- A port at entry to RUNNING (R14): image rate and isolation threshold. -/
def runningPort (img : List Byte) (i : Fin 4) (x : Port) : Port :=
  { x.takeRate (portRateOf img) with threshold := thresholdOf img (portOfIndex i) }

/-- Attention settings at entry to RUNNING (R14, R168): the image's; latches, cursor, slip count and a running
dwell timer kept. -/
def runningWatch (img : List Byte) (i : Fin 4) (x : Watch) : Watch :=
  { x with
    mask := maskOf img (portOfIndex i)
    trigger := triggerOf img (portOfIndex i)
    dwellTime := dwellTimeOf img (portOfIndex i) }

/-- The part in RUNNING as R14 gives it, before the START record. -/
def enterRunning (img : List Byte) (s : State) : State :=
  { s with
    part := .running
    lineRate := lineRateOf img
    lines := tmap (fun _ x => x.off) s.lines
    points := tmap (fun d x => startPoint img d x) s.points
    handOff := none
    sections := tbuild fun n => startSection img n
    slots := tbuild fun _ => none
    txnCounter := 1
    commitLimit := imageNat img 10
    confirmWindow := confirmWindowOf img
    ports := tmap (runningPort img) s.ports
    watches := tmap (runningWatch img) s.watches
    arbMode := arbModeOf img
    arbOne := .low
    arbTwo := .recorder
    restartServed := false }

/-- The part in UNCONFIGURED as R15 gives it, before the START record. -/
def enterUnconfigured (s : State) : State :=
  { s with
    part := .unconfigured
    lines := tmap (fun _ x => x.off) s.lines
    points := tmap (fun _ x => { Point.cold with stats := x.stats }) s.points
    handOff := none
    sections := tbuild fun _ => .cold
    slots := tbuild fun _ => none
    ports := tmap (fun _ x => x.takeRate .r57600) s.ports
    arbMode := .rotate
    arbOne := .low
    arbTwo := .recorder
    restartServed := false }

/-- The end of a load (R7): the code and the label kept, the memory port idle (R6), the part state, the START
record. -/
def endLoad (image : List Byte) (s : State) : State :=
  let img := presented image
  let fault := imageFaultOf img
  let t := { s with imageFault := fault, imageLabel := keptLabel img, memSelect := false }
  append (.start s.startKind (keptLabel img) fault)
    (if fault = .none then enterRunning img t else enterUnconfigured t)

/-- LOAD_END (R7), with the bytes the memory presented. -/
def execLoadEnd (image : List Byte) (s : State) : Host.Outcome State Fault Refusal :=
  event (s.live && s.part == .starting) (endLoad image) s

/-! ### The Time Base (R5) -/

/-- One millisecond off the clearing timer of a section (R83). -/
def SectionMode.tick (m : SectionMode) : SectionMode :=
  match m with
  | .clearing r => .clearing (r - 1)
  | .unused | .disturbed _ | .prepared | .sweeping | .occupied | .clear => m

/-- One millisecond off the gap timer of an assembler (R22, R146). -/
def Assembler.tick (a : Assembler) : Assembler := { a with gap := tickTimer a.gap }

/-- One millisecond off the timers in service in RUNNING only (R13): lines, points, sections, transactions. -/
def tickService (s : State) : State :=
  { s with
    lines := tmap (fun _ x => { x with silence := tickTimer x.silence, asm := x.asm.tick }) s.lines
    points := tmap (fun _ x => { x with silence := tickTimer x.silence }) s.points
    sections := tmap (fun _ x => { x with mode := x.mode.tick }) s.sections
    slots := tmap (fun _ x => x.map fun t => { t with window := t.window - 1 }) s.slots }

/-- One millisecond off the timers of the ports, which run in every part state (R140, R144, R146). -/
def tickPorts (s : State) : State :=
  { s with
    ports := tmap (fun _ x => { x with asm := x.asm.tick }) s.ports
    watches := tmap (fun _ x => { x with dwell := tickTimer x.dwell }) s.watches }

/-- One millisecond (R5): the count rises in every part state; the timers run unless the part is held inactive
(R11, log 7). -/
def tick (s : State) : State :=
  let t := { s with time := s.time + 1 }
  let u := if s.inService then tickService t else t
  if s.live then tickPorts u else u

/-- TIME_BASE_MILLISECOND (R5). -/
def execTimeBaseMillisecond (s : State) : Host.Outcome State Fault Refusal := event true tick s

end Sys2Proof.Machine
end

