-- ==== Sys2Proof/Machine/Dispatch.lean ====
section
/-! DEFINITION. Every command to its meaning, one arm each. -/

namespace Sys2Proof.Machine

def exec (i : Instr) (s : State) : Host.Outcome State Fault Refusal :=
  match i with
  | .resetInputLow => Sys2Proof.Machine.execResetInputLow s
  | .coldStart low => Sys2Proof.Machine.execColdStart low s
  | .loadEnd image => Sys2Proof.Machine.execLoadEnd image s
  | .warmStart => Sys2Proof.Machine.execWarmStart s
  | .trkGoodCharacter line byte early => Sys2Proof.Machine.execTrkGoodCharacter line byte early s
  | .trkFramingError line early => Sys2Proof.Machine.execTrkFramingError line early s
  | .trkBreak line early => Sys2Proof.Machine.execTrkBreak line early s
  | .trkBreakEnd line => Sys2Proof.Machine.execTrkBreakEnd line s
  | .trkGapTimeout line => Sys2Proof.Machine.execTrkGapTimeout line s
  | .lineSilenceExpiry line => Sys2Proof.Machine.execLineSilenceExpiry line s
  | .telegramDelivery line => Sys2Proof.Machine.execTelegramDelivery line s
  | .pointSilenceExpiry point => Sys2Proof.Machine.execPointSilenceExpiry point s
  | .handOff span => Sys2Proof.Machine.execHandOff span s
  | .clearingTimerExpiry sec => Sys2Proof.Machine.execClearingTimerExpiry sec s
  | .confirmWindowExpiry slot => Sys2Proof.Machine.execConfirmWindowExpiry slot s
  | .dwellTimerExpiry port => Sys2Proof.Machine.execDwellTimerExpiry port s
  | .portGoodCharacter port byte => Sys2Proof.Machine.execPortGoodCharacter port byte s
  | .rejoin port tag => Sys2Proof.Machine.execRejoin port tag s
  | .portFramingError port => Sys2Proof.Machine.execPortFramingError port s
  | .portBreak port => Sys2Proof.Machine.execPortBreak port s
  | .portBreakEnd port => Sys2Proof.Machine.execPortBreakEnd port s
  | .portGapTimeout port => Sys2Proof.Machine.execPortGapTimeout port s
  | .answerSent port => Sys2Proof.Machine.execAnswerSent port s
  | .status => Sys2Proof.Machine.execStatus s
  | .summary => Sys2Proof.Machine.execSummary s
  | .readSection => Sys2Proof.Machine.execReadSection s
  | .readPoint => Sys2Proof.Machine.execReadPoint s
  | .readLine => Sys2Proof.Machine.execReadLine s
  | .selectView => Sys2Proof.Machine.execSelectView s
  | .readNext => Sys2Proof.Machine.execReadNext s
  | .journalRead => Sys2Proof.Machine.execJournalRead s
  | .journalSeek => Sys2Proof.Machine.execJournalSeek s
  | .identify => Sys2Proof.Machine.execIdentify s
  | .setMask => Sys2Proof.Machine.execSetMask s
  | .setInhibit => Sys2Proof.Machine.execSetInhibit s
  | .proposeReset => Sys2Proof.Machine.execProposeReset s
  | .confirmReset => Sys2Proof.Machine.execConfirmReset s
  | .cancelReset => Sys2Proof.Machine.execCancelReset s
  | .clearStatistics => Sys2Proof.Machine.execClearStatistics s
  | .restart => Sys2Proof.Machine.execRestart s
  | .timeBaseMillisecond => Sys2Proof.Machine.execTimeBaseMillisecond s

end Sys2Proof.Machine
end

