-- ==== Sys2Proof/Safety.lean ====
section
/-! DEFINITION. What a sound state is, in the terms the claims use: for each kind of state the relations that the
spec says always hold. Each is a predicate on all states, met or not by states no run reaches. -/

namespace Sys2Proof.Safety

open Sys2Proof.Machine

/-- A cause of port `p` is pending and in its mask: one of the four latches (R169 to R171, R173), or LEVEL, the unread
count at or above the trigger level (R132, R172); bit positions of 10.7. -/
def UnmaskedCause (s : State) (p : PortId) : Prop :=
  let x := s.watch p
  (x.latchLink = true ∧ x.mask.getLsbD 0 = true) ∨
    (x.latchSection = true ∧ x.mask.getLsbD 1 = true) ∨
    (x.latchReset = true ∧ x.mask.getLsbD 2 = true) ∨
    (x.trigger ≤ (s.journal.writeSeq - x.cursor).toNat ∧ x.mask.getLsbD 3 = true) ∨
    (x.latchDwell = true ∧ x.mask.getLsbD 4 = true)

/-- Every attention line is asserted exactly when its port is ISOLATED, or ACTIVE with an unmasked cause pending
(R177), and deasserted while the reset input is held low (R11). -/
def AttentionSound (s : State) : Prop :=
  ∀ p, s.attn p = true ↔ s.resetLow = false ∧ ((s.port p).isolated = true ∨ UnmaskedCause s p)

/-- The journal's ring and the ports' cursors (R127, R132, R134): H is at most 512, each of the H newest sequence
numbers has its record in its place, no port has more unread records than are held, and no slip count passes
65 535. -/
structure JournalSound (s : State) : Prop where
  held_le : s.journal.held ≤ 512
  kept : ∀ k < s.journal.held,
    ∃ r, s.journal.at (s.journal.writeSeq - BitVec.ofNat 32 (k + 1)) = some r ∧
      r.seq = s.journal.writeSeq - BitVec.ofNat 32 (k + 1)
  unread_le : ∀ p, s.unread p ≤ s.journal.held
  slip_le : ∀ p, (s.watch p).slipCount ≤ 65535

/-- One port's link (R151, R152, R154, R155, R164): the outstanding count is the queued requests and the unsent answers
that hold a slot, at most 4; at most 8 immediate answers wait; the error level is at most 255; an ISOLATED port has
no request queued; the view cursor names an entry of its view (R164). -/
structure PortSound (x : Port) : Prop where
  outstanding_eq : x.outstanding = x.queue.length + slotAnswers x.answers
  outstanding_le : x.outstanding ≤ 4
  immediate_le : immediateCount x ≤ 8
  error_le : x.errorLevel ≤ 255
  isolated_queue : x.isolated = true → x.queue = []
  view_entry : x.viewCursor ≤ match x.view with
    | .sections => 23
    | .points => 31
    | .lines => 3

/-- Every port's link is sound. -/
def PortsSound (s : State) : Prop := ∀ p, PortSound (s.port p)

/-- A frame assembler (R20 to R22, R145, R146): in SEARCH it holds nothing and its gap timer is stopped; in
COLLECT its gap timer runs and no break is in progress. -/
structure AssemblerSound (a : Assembler) : Prop where
  search_empty : a.state = .search → a.held = [] ∧ a.gap = none
  collect_runs : a.state = .collect → a.gap.isSome = true ∧ a.breakFlag = false

/-- A trackside line (R20 to R22, R28, R30): its assembler is sound and holds at most five bytes between
characters; the silence timer runs exactly while the line is UP; no statistic passes 65 535. -/
structure LineSound (x : Line) : Prop where
  asm : AssemblerSound x.asm
  held_le : x.asm.held.length ≤ 5
  silence_up : x.silence.isSome = x.up
  valid_le : x.valid ≤ 65535
  check_le : x.check ≤ 65535
  timeout_le : x.timeout ≤ 65535
  lineError_le : x.lineError ≤ 65535
  misrouted_le : x.misrouted ≤ 65535

/-- Every line and every port assembler is sound; a request frame in collection has announced at most 12 payload
bytes and is not complete (R145). -/
structure ReceptionSound (s : State) : Prop where
  lines : ∀ l, LineSound (s.line l)
  ports : ∀ p, AssemblerSound (s.port p).asm
  frame : ∀ p, 3 ≤ (s.port p).asm.held.length →
    announced (s.port p).asm.held ≤ 12 ∧ (s.port p).asm.held.length < 5 + announced (s.port p).asm.held

/-- The state of a point with what it holds (R40, R45, R48): in IN_SYNC the last telegram of the history bears
e − 1 and the baseline is its counts, the older one bears e − 2, and the fault flags are clear; no candidate and
no telegram of the history carries a head fault. -/
def PointHolds (x : Point) : Prop :=
  match x.mode with
  | .inSync last older bAB bBA e =>
    e = last.seq + 1 ∧ bAB = last.cAB ∧ bBA = last.cBA ∧ last.headFault = false ∧
      (∀ o, older = some o → e = o.seq + 2 ∧ o.headFault = false) ∧ x.fault1 = false ∧ x.fault2 = false ∧
      x.h1 = last.h1 ∧ x.h2 = last.h2 ∧ x.warning = last.warning
  | .pending c => c.headFault = false ∧ x.fault1 = false ∧ x.fault2 = false
  | .unused | .hunt | .faulted | .lost => True

/-- The silence timer runs in PENDING, IN_SYNC and FAULTED, and in no other state (R50). -/
def silenceRuns (n : PointName) : Bool :=
  match n with
  | .pending | .inSync | .faulted => true
  | .unused | .hunt | .lost => false

/-- A point context (R32, R40, R45, R48, R50); the sides of a used point differ and its gap limit is at most 5
(R1, R9). -/
structure PointSound (x : Point) : Prop where
  sides_differ : ∀ c, x.cfg = some c → c.sideA ≠ c.sideB
  gap_le : ∀ c, x.cfg = some c → c.gapLimit ≤ 5
  holds : PointHolds x
  silence_runs : x.silence.isSome = silenceRuns x.mode.name

/-- Every point context is sound. -/
def PointsSound (s : State) : Prop := ∀ d, PointSound (s.point d)

/-- The net, tallies and repeat count in range (R67 to R69, R88), and the net and passage of the states that claim
a vacant section: PREPARED has net 0 (R86), CLEARING and CLEAR have net 0 and no passage (R82, R85). -/
structure SectionSound (x : Section) : Prop where
  net_le : x.net ≤ 2047
  in_le : x.inTally ≤ 65535
  out_le : x.outTally ≤ 65535
  repeat_le : x.repeatCount ≤ 255
  prepared_net : x.mode.name = .prepared → x.net = 0
  clearing_vacant : x.mode.name = .clearing → x.net = 0 ∧ x.passage = false
  clear_vacant : x.mode.name = .clear → x.net = 0 ∧ x.passage = false

/-- Every section record is sound. -/
def SectionsSound (s : State) : Prop := ∀ n, SectionSound (s.sec n)

/-- Every entry of a boundary list is a used point one of whose sides names the section (R3). -/
def PlanSound (s : State) : Prop :=
  ∀ n, ∀ b ∈ (s.sec n).boundary, ∃ c, (s.point b.point).cfg = some c ∧ n ∈ c.adjacent

/-- The plan is sound, and a section that is neither DISTURBED nor UNUSED has every boundary point IN_SYNC
(R90). -/
structure SyncSound (s : State) : Prop where
  plan : PlanSound s
  in_sync : ∀ n, (s.sec n).mode.ruled = true → ∀ b ∈ (s.sec n).boundary, (s.point b.point).mode.name = .inSync

/-- The hand-off under way still has its application to section `n` before it (R61). -/
def applicationPending (s : State) (n : SectionId) : Prop :=
  ∃ h, s.handOff = some h ∧
    match h.stage with
    | .waiting | .recorded => s.sideA h.point = some n ∨ s.sideB h.point = some n
    | .appliedA => s.sideB h.point = some n
    | .appliedB => False

/-- The passage flag of a section agrees with the heads of its boundary points (R70), except while an application
that will recompute it is still to be made. -/
structure PassageSound (s : State) : Prop where
  plan : PlanSound s
  passage : ∀ n, (s.sec n).mode ≠ .unused → (s.sec n).passage = passageOf (s.sec n) s ∨ applicationPending s n

/-- The Reset Transaction Table (R92, R101, R106, R109): a commitment limit of at most 4 (R8); no more OPEN slots than
the limit; no two for one section or with one number; each for a DISTURBED section that shows its number; none that holds both
confirmations; a DIRECT one proposed from MNT. -/
structure TxnSound (s : State) : Prop where
  limit_le : s.commitLimit ≤ 4
  limit : openSlots s ≤ s.commitLimit
  one_section : ∀ j k t u, s.slot j = some t → s.slot k = some u → t.sec = u.sec → j = k
  one_number : ∀ j k t u, s.slot j = some t → s.slot k = some u → t.number = u.number → j = k
  disturbed : ∀ k t, s.slot k = some t → (s.sec t.sec).isDisturbed = true ∧ (s.sec t.sec).openTxn = some t.number
  unconfirmed : ∀ k t, s.slot k = some t → (t.byIxa && t.byIxb) = false
  direct_mnt : ∀ k t, s.slot k = some t → t.kind = .direct → t.proposer = .mnt

/-- A safe run: no step of it ends in a fault or a refusal. -/
def StepsOn (s : State) : Prop := ∃ t, step s = .next t

end Sys2Proof.Safety
end

