-- ==== Sys2Proof/Certificates/Slice0/Obligations.lean ====
section
/-! DEFINITION. The statements for the provers: what each command does, for every command of the table, and what
every step keeps. A statement names the state that the rules give with `Settled`, so it says the frame as well:
what its record update does not name is unchanged. -/

namespace Sys2Proof.Claims

open Sys2Proof.Machine Sys2Proof.Safety

/-! ### Words the statements share -/

/-- `t` is `u` with its attention lines decided again, and with nothing else changed (R177). -/
def Settled (t u : State) : Prop := t = { u with attention := t.attention } ∧ AttentionSound t

/-- RUNNING with the reset input high: receivers, contexts, records and transactions are in service (R13, R18). -/
def InService (s : State) : Prop := s.resetLow = false ∧ s.part = .running

/-- `x` at port `p`, all else kept. -/
def withPort (s : State) (p : PortId) (f : Port → Port) : State := s.setPort p (f (s.port p))

/-- The port assembler in SEARCH with nothing held; its break flag kept. -/
def searching (x : Port) : Port := { x with asm := ⟨.search, [], none, x.asm.breakFlag⟩ }

/-- The line assembler in SEARCH with nothing held; its break flag kept. -/
def lineSearching (x : Line) : Line := { x with asm := ⟨.search, [], none, x.asm.breakFlag⟩ }

/-- The 32-bit field at byte `i`, high byte first. -/
def wordAt (bs : List Byte) (i : Nat) : Word := halfAt bs i ++ halfAt bs (i + 2)

/-! ### Code tables (10.3, 10.8) -/

/-- Section state codes. -/
def sectionCodes : List (SectionName × Byte) :=
  [(.unused, 0x00), (.disturbed, 0x01), (.prepared, 0x02), (.sweeping, 0x03), (.occupied, 0x04), (.clearing, 0x05),
    (.clear, 0x06)]

/-- Point state codes. -/
def pointCodes : List (PointName × Byte) :=
  [(.unused, 0x00), (.hunt, 0x01), (.pending, 0x02), (.inSync, 0x03), (.faulted, 0x04), (.lost, 0x05)]

/-- Cause codes other than NONE. -/
def causeCodes : List (Cause × Byte) :=
  [(.start, 0x01), (.negative, 0x02), (.overflow, 0x03), (.implausible, 0x04), (.sequence, 0x05), (.conflict, 0x06),
    (.pointRestart, 0x07), (.headFault, 0x08), (.pointLost, 0x09)]

/-- Port codes. -/
def portCodes : List (PortId × Byte) := [(.ixa, 0x00), (.ixb, 0x01), (.mnt, 0x02), (.recorder, 0x03)]

/-- Cancel reason codes. -/
def reasonCodes : List (CancelReason × Byte) :=
  [(.requested, 0x01), (.mismatch, 0x02), (.notReady, 0x03), (.point, 0x04), (.inhibited, 0x05), (.activity, 0x06)]

/-- Image fault codes. -/
def faultCodes : List (ImageFault × Byte) :=
  [(.none, 0x00), (.noImage, 0x01), (.length, 0x02), (.check, 0x03), (.range, 0x04), (.topology, 0x05)]

/-- Result codes. -/
def resultCodes : List (ResultCode × Byte) :=
  [(.ok, 0x00), (.empty, 0x01), (.busy, 0x02), (.starting, 0x03), (.notConfigured, 0x04), (.badRequest, 0x05),
    (.notPermitted, 0x06), (.range, 0x07), (.notNeeded, 0x08), (.notReady, 0x09), (.inhibited, 0x0A),
    (.duplicate, 0x0B), (.tableFull, 0x0C), (.unknownTxn, 0x0D), (.mismatch, 0x0E)]

/-- Request names with their code (10.3) and their payload length (R149). -/
def requestCodes : List (RequestKind × Byte × Nat) :=
  [(.status, 0x01, 0), (.summary, 0x02, 0), (.readSection, 0x03, 1), (.readPoint, 0x04, 1), (.readLine, 0x05, 1),
    (.selectView, 0x06, 1), (.readNext, 0x07, 0), (.journalRead, 0x08, 1), (.journalSeek, 0x09, 1),
    (.identify, 0x0A, 0), (.setMask, 0x0B, 1), (.rejoin, 0x0C, 0), (.setInhibit, 0x10, 2), (.proposeReset, 0x11, 2),
    (.confirmReset, 0x12, 2), (.cancelReset, 0x13, 1), (.clearStatistics, 0x18, 0), (.restart, 0x19, 0)]

/-- The byte of a cause field: 00h NONE. -/
def CauseIs (b : Byte) (x : Option Cause) : Prop :=
  match x with
  | none => b = 0x00
  | some q => (q, b) ∈ causeCodes

/-! ### Requests -/

/-- The Request Engine takes request `r` of port `p`, whose queue holds `queue` behind it, and the arbiter's
pointers after the choice are `one` and `two` (R157, R62, R16). -/
def Takes (s : State) (p : PortId) (r : Request) (queue : List Request) (one : RingOne) (two : RingTwo) : Prop :=
  s.resetLow = false ∧ s.part ≠ .starting ∧ s.restartServed = false ∧
    (∀ h, s.handOff = some h → h.stage = .waiting) ∧
    choose s = some (p, one, two) ∧ (s.port p).queue = r :: queue

/-- `s` with the request gone from its queue, the pointers moved and its answer at the tail of the port's answer
list (R155, R157). -/
def Answered (s : State) (p : PortId) (r : Request) (queue : List Request) (one : RingOne) (two : RingTwo)
    (result : ResultCode) (payload : List Byte) : State :=
  { s with arbOne := one, arbTwo := two }.setPort p
    { s.port p with
      queue := queue
      answers := (s.port p).answers ++ [Answer.mk .served r.tag result payload] }

/-- A member of the level-one ring has a request queued; LOW has one when MNT or REC has (R160). -/
def RingWaits (s : State) (m : RingOne) : Prop :=
  match m with
  | .ixa => (s.port .ixa).queue ≠ []
  | .ixb => (s.port .ixb).queue ≠ []
  | .low => (s.port .mnt).queue ≠ [] ∨ (s.port .recorder).queue ≠ []

/-- The member that the level-one ring looks at next after `m`: IXA, IXB, LOW and round again (R160). -/
def ringNext (m : RingOne) : RingOne :=
  match m with
  | .ixa => .ixb
  | .ixb => .low
  | .low => .ixa

/-- R160's winner `p`, and the two pointers `o` and `w` after the choice: `o` is the first member after the level-one
pointer that has a request; where it is LOW, `p` is the first of MNT and REC after the level-two pointer that has one, and
`w` names it; else `p` is the port `o` names, and `w` is the level-two pointer as it was. -/
def RotateWinner (s : State) (p : PortId) (o : RingOne) (w : RingTwo) : Prop :=
  RingWaits s o ∧ (s.port p).queue ≠ [] ∧
    (o = ringNext s.arbOne ∨
      ¬ RingWaits s (ringNext s.arbOne) ∧ (o = ringNext (ringNext s.arbOne) ∨
        ¬ RingWaits s (ringNext (ringNext s.arbOne)) ∧ o = s.arbOne)) ∧
    match o with
    | .ixa => p = .ixa ∧ w = s.arbTwo
    | .ixb => p = .ixb ∧ w = s.arbTwo
    | .low => (p = .mnt ∧ w = .mnt ∧ (s.arbTwo = .mnt → (s.port .recorder).queue = [])) ∨
        (p = .recorder ∧ w = .recorder ∧ (s.arbTwo = .recorder → (s.port .mnt).queue = []))

/-! ### Reset transactions -/

/-- `v` is `s` after transaction `u` of slot `k` has ended with event `e` and without completing: the RESET record,
the slot FREE, the section's open number absent, the RESET latches of R113; nothing else (R111, R114). -/
def Ended (e : ResetEvent) (k : SlotId) (u : Txn) (s v : State) : Prop :=
  v = { s with slots := v.slots, sections := v.sections, journal := v.journal, watches := v.watches } ∧
    v.journal = s.journal.push s.time (.reset u.number u.sec u.kind e) ∧
    v.slot k = none ∧ (∀ j, j ≠ k → v.slot j = s.slot j) ∧
    v.sec u.sec = { s.sec u.sec with openTxn := none } ∧ (∀ n, n ≠ u.sec → v.sec n = s.sec n) ∧
    ∀ p, v.watch p =
      { watchAppend s.journal.writeSeq false (s.watch p) with
        latchReset := (s.watch p).latchReset || p == .ixa || p == .ixb || (p == .mnt && u.proposer == .mnt) }

/-- `v` is `s` after the transactions of the list have ended with event `e`, one after the other in its order. -/
def EndedInTurn (e : ResetEvent) (us : List Txn) (s v : State) : Prop :=
  match us with
  | [] => v = s
  | u :: rest => ∃ k m, s.slot k = some u ∧ Ended e k u s m ∧ EndedInTurn e rest m v

/-- The open transactions for section `n`: at most one (R106). -/
def openFor (s : State) (n : SectionId) : List Txn :=
  ((List.finRange 4).filterMap fun k => s.slot k).filter fun u => u.sec == n

/-- Every boundary point of section `n` is IN_SYNC. -/
def BoundaryInSync (s : State) (n : SectionId) : Prop :=
  ∀ b ∈ (s.sec n).boundary, (s.point b.point).mode.name = .inSync

/-- Every boundary point of section `n` has both heads free. -/
def BoundaryFree (s : State) (n : SectionId) : Prop :=
  ∀ b ∈ (s.sec n).boundary, (s.point b.point).h1 = false ∧ (s.point b.point).h2 = false

/-- Both inhibits of section `n` are off. -/
def Uninhibited (s : State) (n : SectionId) : Prop :=
  (s.sec n).inhibitA = false ∧ (s.sec n).inhibitB = false

/-- The completion check of R109 on transaction `u`. -/
def CheckPasses (s : State) (u : Txn) : Prop :=
  (s.sec u.sec).mode.name = .disturbed ∧ Uninhibited s u.sec ∧ BoundaryInSync s u.sec ∧
    (u.kind = .direct → BoundaryFree s u.sec ∧ u.proposer = .mnt)

/-- `v` is `s` after transaction `u` of slot `k` has completed (R110, R91): the COMPLETED record, then the STATE
record; the section restored; the slot FREE; the latches. -/
def Completed (k : SlotId) (u : Txn) (s v : State) : Prop :=
  let mode : SectionMode := if u.kind = .preparatory then .prepared else .clear
  let x := s.sec u.sec
  v = { s with slots := v.slots, sections := v.sections, journal := v.journal, watches := v.watches } ∧
    v.journal = (s.journal.push s.time (.reset u.number u.sec u.kind .completed)).push s.time
      (.state u.sec .disturbed mode.name none 0) ∧
    v.slot k = none ∧ (∀ j, j ≠ k → v.slot j = s.slot j) ∧
    v.sec u.sec =
      { x with
        mode := mode
        net := 0
        inTally := 0
        outTally := 0
        repeatCount := 0
        openTxn := none
        passage := x.passage && u.kind == .preparatory } ∧
    (∀ n, n ≠ u.sec → v.sec n = s.sec n) ∧
    ∀ p, v.watch p =
      { watchAppend (s.journal.writeSeq + 1) true (watchAppend s.journal.writeSeq false (s.watch p)) with
        latchReset := (s.watch p).latchReset || p == .ixa || p == .ixb || (p == .mnt && u.proposer == .mnt) }

/-! ### Link errors -/

/-- `s` after a link error at port `p` (R151, R152, R169): the level up by one to at most 255, the LINK latch, and,
where an ACTIVE port reaches a threshold that is not 0, its isolation with the queue dropped and an ISOLATED
record. -/
def linkErrored (p : PortId) (s : State) : State :=
  let x := s.port p
  let level := min 255 (x.errorLevel + 1)
  let latched := s.setWatch p { s.watch p with latchLink := true }
  if x.isolated = false ∧ x.threshold ≠ 0 ∧ x.threshold ≤ level then
    append (.port p .isolated)
      (latched.setPort p
        { x with
          errorLevel := level
          isolated := true
          queue := []
          outstanding := x.outstanding - x.queue.length })
  else latched.setPort p { x with errorLevel := level }

/-- An immediate answer at the tail of the list of port `p`, with the level lowered by one (R150, R155). -/
def answeredAtOnce (p : PortId) (tag : Byte) (result : ResultCode) (s : State) : State :=
  withPort s p fun x =>
    { x with errorLevel := x.errorLevel - 1, answers := x.answers ++ [Answer.mk .immediate tag result []] }

/-- Fewer than eight immediate answers wait in the list of port `p` (R155). -/
def Room (s : State) (p : PortId) : Prop :=
  ((s.port p).answers.filter fun a => a.kind == .immediate).length < 8

/-- `s` after a well-formed REJOIN at port `p` (R153): an ISOLATED port becomes ACTIVE with level 0 and a REJOINED
record; an ACTIVE one has its level lowered by one. -/
def rejoined (p : PortId) (tag : Byte) (s : State) : State :=
  if (s.port p).isolated = true then
    append (.port p .rejoined) (withPort s p fun x =>
      { x with isolated := false, errorLevel := 0, answers := x.answers ++ [Answer.mk .immediate tag .ok []] })
  else answeredAtOnce p tag .ok s

/-! ### Access rights -/

/-- The command that serves a request of a kind; REJOIN is handled at the port (R153). -/
def commandOf (k : RequestKind) : Option Instr :=
  match k with
  | .status => some .status
  | .summary => some .summary
  | .readSection => some .readSection
  | .readPoint => some .readPoint
  | .readLine => some .readLine
  | .selectView => some .selectView
  | .readNext => some .readNext
  | .journalRead => some .journalRead
  | .journalSeek => some .journalSeek
  | .identify => some .identify
  | .setMask => some .setMask
  | .rejoin => none
  | .setInhibit => some .setInhibit
  | .proposeReset => some .proposeReset
  | .confirmReset => some .confirmReset
  | .cancelReset => some .cancelReset
  | .clearStatistics => some .clearStatistics
  | .restart => some .restart

/-- The entries "no" of R159's table. -/
def Forbidden (p : PortId) (k : RequestKind) : Prop :=
  ((k = .setInhibit ∨ k = .confirmReset) ∧ (p = .mnt ∨ p = .recorder)) ∨
    ((k = .proposeReset ∨ k = .cancelReset) ∧ p = .recorder) ∨
    ((k = .clearStatistics ∨ k = .restart) ∧ p ≠ .mnt)

/-- The requests served in UNCONFIGURED (R15). -/
def NeedsNoConfiguration (k : RequestKind) : Prop :=
  k = .status ∨ k = .identify ∨ k = .setMask ∨ k = .journalRead ∨ k = .journalSeek ∨ k = .restart

/-! ### Answers -/

/-- The five flags of a byte are these, and its other three bits are 0. -/
def FlagsAre (b : Byte) (f0 f1 f2 f3 f4 : Bool) : Prop :=
  b.getLsbD 0 = f0 ∧ b.getLsbD 1 = f1 ∧ b.getLsbD 2 = f2 ∧ b.getLsbD 3 = f3 ∧ b.getLsbD 4 = f4 ∧
    b.toNat < 32

/-- A side's section in a record: FFh for NONE (10.5, 10.6). -/
def sideByte (x : Option SectionId) : Byte :=
  match x with
  | some n => BitVec.ofNat 8 n.val
  | none => 0xFF

/-- Event and further item of a RESET record (R183). -/
def ResetEventIs (event item : Byte) (e : ResetEvent) : Prop :=
  match e with
  | .proposed p => event = 0x01 ∧ (p, item) ∈ portCodes
  | .confirmed p => event = 0x02 ∧ (p, item) ∈ portCodes
  | .completed => event = 0x03 ∧ item = 0x00
  | .expired => event = 0x04 ∧ item = 0x00
  | .cancelled r => event = 0x05 ∧ (r, item) ∈ reasonCodes

/-- Kind and payload of a stored record, in bytes 8 to 15 (R183). -/
def BodyIs (bs : List Byte) (b : RecordBody) : Prop :=
  match b with
  | .axle d dAB dBA a c gap seq =>
    byteAt bs 8 = 0x01 ∧ (byteAt bs 9).toNat = d.val ∧ byteAt bs 10 = dAB ∧ byteAt bs 11 = dBA ∧
      byteAt bs 12 = sideByte a ∧ byteAt bs 13 = sideByte c ∧ byteAt bs 14 = BitVec.ofNat 8 gap ∧
      (byteAt bs 15).toNat = seq.toNat
  | .state n old new cause net =>
    byteAt bs 8 = 0x02 ∧ (byteAt bs 9).toNat = n.val ∧ (old, byteAt bs 10) ∈ sectionCodes ∧
      (new, byteAt bs 11) ∈ sectionCodes ∧ CauseIs (byteAt bs 12) cause ∧ halfAt bs 13 = BitVec.ofNat 16 net ∧
      byteAt bs 15 = 0
  | .point d old new cause event =>
    byteAt bs 8 = 0x03 ∧ (byteAt bs 9).toNat = d.val ∧ (old, byteAt bs 10) ∈ pointCodes ∧
      (new, byteAt bs 11) ∈ pointCodes ∧ CauseIs (byteAt bs 12) cause ∧
      byteAt bs 13 = (match event with
        | .stateChange => 0x00
        | .warningOn => 0x01
        | .warningOff => 0x02) ∧
      bs.drop 14 = [0, 0]
  | .line l up =>
    byteAt bs 8 = 0x04 ∧ (byteAt bs 9).toNat = l.val ∧ byteAt bs 10 = (if up = true then 0x01 else 0x00) ∧
      bs.drop 11 = [0, 0, 0, 0, 0]
  | .reset number n kind event =>
    byteAt bs 8 = 0x05 ∧ byteAt bs 9 = number ∧ (byteAt bs 10).toNat = n.val ∧
      byteAt bs 11 = (if kind = .preparatory then 0x01 else 0x02) ∧
      ResetEventIs (byteAt bs 12) (byteAt bs 13) event ∧ bs.drop 14 = [0, 0]
  | .port p event =>
    byteAt bs 8 = 0x06 ∧ (p, byteAt bs 9) ∈ portCodes ∧
      byteAt bs 10 = (match event with
        | .isolated => 0x01
        | .rejoined => 0x02
        | .linkReset => 0x03) ∧
      bs.drop 11 = [0, 0, 0, 0, 0]
  | .start kind label fault =>
    byteAt bs 8 = 0x07 ∧ byteAt bs 9 = (if kind = .cold then 0x00 else 0x01) ∧ halfAt bs 10 = label ∧
      (fault, byteAt bs 12) ∈ faultCodes ∧ bs.drop 13 = [0, 0, 0]

/-- The sixteen bytes of a stored record: sequence, time, kind, payload (R183). -/
def RecordIs (bs : List Byte) (e : JRecord) : Prop :=
  bs.length = 16 ∧ wordAt bs 0 = e.seq ∧ wordAt bs 4 = e.time ∧ BodyIs bs e.body

/-- The sixteen bytes of a SLIP item (R137, R183). -/
def SlipIs (bs : List Byte) (cursor time : Word) (count : Nat) : Prop :=
  bs.length = 16 ∧ wordAt bs 0 = cursor ∧ wordAt bs 4 = time ∧ byteAt bs 8 = 0x0F ∧
    halfAt bs 9 = BitVec.ofNat 16 count ∧ bs.drop 11 = [0, 0, 0, 0, 0]

/-- The section record of a used section (10.5). -/
structure SectionRecordIs (bs : List Byte) (n : SectionId) (x : Section) (c : SectionCfg) : Prop where
  length : bs.length = 30
  number : (byteAt bs 0).toNat = n.val
  used : byteAt bs 1 = 1
  state : (x.mode.name, byteAt bs 2) ∈ sectionCodes
  net : halfAt bs 3 = BitVec.ofNat 16 x.net
  inTally : halfAt bs 5 = BitVec.ofNat 16 x.inTally
  outTally : halfAt bs 7 = BitVec.ofNat 16 x.outTally
  flags : FlagsAre (byteAt bs 9) x.passage x.inhibitA x.inhibitB c.preparatory c.direct
  cause : ∀ q, (x.mode = .disturbed q → (q, byteAt bs 10) ∈ causeCodes)
  noCause : x.mode.name ≠ .disturbed → byteAt bs 10 = 0
  repeats : byteAt bs 11 = BitVec.ofNat 8 x.repeatCount
  clearing : ∀ r, x.mode = .clearing r → halfAt bs 12 = BitVec.ofNat 16 r
  notClearing : x.mode.name ≠ .clearing → halfAt bs 12 = 0xFFFF
  openTxn : byteAt bs 14 = x.openTxn.getD 0
  delay : halfAt bs 15 = BitVec.ofNat 16 c.clearDelay
  entries : byteAt bs 17 = BitVec.ofNat 8 x.boundary.length
  boundary : ∀ i, i < 6 → ∀ b, x.boundary[i]? = some b →
    (byteAt bs (18 + 2 * i)).toNat = b.point.val ∧ byteAt bs (19 + 2 * i) = (if b.side = .a then 0 else 1)
  beyond : ∀ i, i < 6 → x.boundary[i]? = none → byteAt bs (18 + 2 * i) = 0xFF ∧ byteAt bs (19 + 2 * i) = 0xFF

/-- The fields of a point record that depend on the state (10.5). -/
def PointModeIs (bs : List Byte) (m : PointMode) : Prop :=
  match m with
  | .inSync _ older bAB bBA e =>
    (byteAt bs 9).toNat = e.toNat ∧ byteAt bs 10 = bAB ∧ byteAt bs 11 = bBA ∧
      byteAt bs 12 = (if older = none then 1 else 2) ∧ byteAt bs 13 = 0xFF
  | .pending cand =>
    byteAt bs 9 = 0xFF ∧ byteAt bs 10 = 0 ∧ byteAt bs 11 = 0 ∧ byteAt bs 12 = 0 ∧
      (byteAt bs 13).toNat = cand.seq.toNat
  | .unused | .hunt | .faulted | .lost =>
    byteAt bs 9 = 0xFF ∧ byteAt bs 10 = 0 ∧ byteAt bs 11 = 0 ∧ byteAt bs 12 = 0 ∧ byteAt bs 13 = 0xFF

/-- The six statistics of a point record, reported as held (10.5). -/
def PointStatsAre (bs : List Byte) (c : PointStats) : Prop :=
  halfAt bs 19 = BitVec.ofNat 16 c.accepted ∧ halfAt bs 21 = BitVec.ofNat 16 c.lost ∧
    halfAt bs 23 = BitVec.ofNat 16 c.duplicates ∧ halfAt bs 25 = BitVec.ofNat 16 c.conflicts ∧
    halfAt bs 27 = BitVec.ofNat 16 c.implausible ∧ halfAt bs 29 = BitVec.ofNat 16 c.sequenceBreaks

/-- The point record of a used point (10.5). -/
structure PointRecordIs (bs : List Byte) (d : PointId) (x : Point) (c : PointCfg) : Prop where
  length : bs.length = 31
  number : (byteAt bs 0).toNat = d.val
  used : byteAt bs 1 = 1
  state : (x.mode.name, byteAt bs 2) ∈ pointCodes
  sides : byteAt bs 3 = sideByte c.sideA ∧ byteAt bs 4 = sideByte c.sideB
  lines : (byteAt bs 5).toNat = c.primary.val ∧ (byteAt bs 6).toNat = c.secondary.val
  limits : byteAt bs 7 = BitVec.ofNat 8 c.axleLimit ∧ byteAt bs 8 = BitVec.ofNat 8 c.gapLimit
  mode : PointModeIs bs x.mode
  flags : FlagsAre (byteAt bs 14) x.h1 x.h2 x.fault1 x.fault2 x.warning
  lastLine : ∀ l, x.lastLine = some l → (byteAt bs 15).toNat = l.val
  noLine : x.lastLine = none → byteAt bs 15 = 0xFF
  lastCause : CauseIs (byteAt bs 16) x.lastCause
  silence : ∀ r, x.silence = some r → halfAt bs 17 = BitVec.ofNat 16 r
  silent : x.silence = none → halfAt bs 17 = 0xFFFF
  stats : PointStatsAre bs x.stats

/-- The point record of an unused point: its number, its statistics, and the absent values (10.5). -/
def UnusedPointRecordIs (bs : List Byte) (d : PointId) (x : Point) : Prop :=
  bs.length = 31 ∧
    bs.take 19 = [BitVec.ofNat 8 d.val, 0, 0, 0xFE, 0xFE, 0xFF, 0xFF, 0, 0xFF, 0xFF, 0, 0, 0, 0xFF, 0, 0xFF, 0,
      0xFF, 0xFF] ∧
    PointStatsAre bs x.stats

/-- The section record of an unused section (10.5). -/
def unusedSectionBytes (n : SectionId) : List Byte :=
  [BitVec.ofNat 8 n.val, 0, 0, 0xFF, 0xFF, 0, 0, 0, 0, 0, 0, 0, 0xFF, 0xFF, 0, 0xFF, 0xFF, 0] ++
    List.replicate 12 0xFF

/-- The line record (R31, 10.5). -/
structure LineRecordIs (bs : List Byte) (l : LineId) (x : Line) (time : Word) : Prop where
  length : bs.length = 14
  number : (byteAt bs 0).toNat = l.val
  state : byteAt bs 1 = if x.up = true then 1 else 0
  valid : halfAt bs 2 = BitVec.ofNat 16 x.valid
  check : halfAt bs 4 = BitVec.ofNat 16 x.check
  timeout : halfAt bs 6 = BitVec.ofNat 16 x.timeout
  lineError : halfAt bs 8 = BitVec.ofNat 16 x.lineError
  misrouted : halfAt bs 10 = BitVec.ofNat 16 x.misrouted
  since : ∀ v, x.lastValid = some v → (halfAt bs 12).toNat = min 65535 (time - v).toNat
  never : x.lastValid = none → halfAt bs 12 = 0xFFFF

/-- The section record of section `n` of `s`, used or not (R99). -/
def SectionAnswer (bs : List Byte) (n : SectionId) (s : State) : Prop :=
  (∀ c, (s.sec n).cfg = some c → SectionRecordIs bs n (s.sec n) c) ∧
    ((s.sec n).cfg = none → bs = unusedSectionBytes n)

/-- The point record of point `d` of `s`, used or not (R57). -/
def PointAnswer (bs : List Byte) (d : PointId) (s : State) : Prop :=
  (∀ c, (s.point d).cfg = some c → PointRecordIs bs d (s.point d) c) ∧
    ((s.point d).cfg = none → UnusedPointRecordIs bs d (s.point d))

/-- The number of points in a state by name. -/
def pointsIn (name : PointName) (s : State) : Nat :=
  (List.finRange 32).countP fun d => (s.point d).mode.name == name

/-- What IDENTIFY finds in `x`, where LEVEL is present as `level` says: the code of the cause, and the watch with the
latch of that cause cleared (R175). -/
def Identifies (x : Watch) (level : Bool) (code : Byte) (y : Watch) : Prop :=
  let link := x.latchLink && x.mask.getLsbD 0
  let sect := x.latchSection && x.mask.getLsbD 1
  let rst := x.latchReset && x.mask.getLsbD 2
  let lvl := level && x.mask.getLsbD 3
  let dwl := x.latchDwell && x.mask.getLsbD 4
  (link = true ∧ code = 0x01 ∧ y = { x with latchLink := false }) ∨
    (link = false ∧ sect = true ∧ code = 0x02 ∧ y = { x with latchSection := false }) ∨
    (link = false ∧ sect = false ∧ rst = true ∧ code = 0x03 ∧ y = { x with latchReset := false }) ∨
    (link = false ∧ sect = false ∧ rst = false ∧ lvl = true ∧ code = 0x04 ∧ y = x) ∨
    (link = false ∧ sect = false ∧ rst = false ∧ lvl = false ∧ dwl = true ∧ code = 0x05 ∧
      y = { x with latchDwell := false }) ∨
    (link = false ∧ sect = false ∧ rst = false ∧ lvl = false ∧ dwl = false ∧ code = 0x00 ∧ y = x)

/-! ### Deliveries -/

/-- The Point Supervisor can take `del` from line `l`, behind which `rest` waits, for a used point with image entry
`c` (R27, R35, R61). -/
def Delivers (s : State) (l : LineId) (del : Delivery) (rest : List Delivery) (c : PointCfg) : Prop :=
  InService s ∧ s.handOff = none ∧ (s.line l).deliveries = del :: rest ∧ (s.point del.point).cfg = some c

/-- `s` with the delivery taken, and the context of its point after R35: last line set, silence timer started
afresh with the full silence time. -/
def taken (s : State) (l : LineId) (rest : List Delivery) : State :=
  s.setLine l { s.line l with deliveries := rest }

def heardPoint (s : State) (l : LineId) (del : Delivery) (c : PointCfg) : Point :=
  { s.point del.point with lastLine := some l, silence := some (c.silenceLimit * c.period) }

/-- A telegram that carries a head fault. -/
def Faulty (t : Telegram) : Prop := t.fault1 = true ∨ t.fault2 = true

/-- The POINT record of a change of state (R55). -/
def pointRecordOf (d : PointId) (old new : PointName) (cause : Option Cause) : RecordBody :=
  .point d old new cause .stateChange

/-- The context `x` of a point after a departure from IN_SYNC with `cause`, by the telegram `tel` or by silence: LOST with
its timer stopped, FAULTED with the telegram's fault flags, or PENDING with the telegram as candidate; the last cause,
and the statistic of the cause (R52). -/
def leftSync (cause : Cause) (tel : Option Telegram) (x : Point) : Point :=
  let y := match tel with
    | none => { x with mode := .lost, silence := none }
    | some u =>
      if u.fault1 || u.fault2 then { x with mode := .faulted, fault1 := u.fault1, fault2 := u.fault2 }
      else { x with mode := .pending u }
  { y with
    lastCause := some cause
    stats := match cause with
      | .conflict => { x.stats with conflicts := min 65535 (x.stats.conflicts + 1) }
      | .implausible => { x.stats with implausible := min 65535 (x.stats.implausible + 1) }
      | .sequence => { x.stats with sequenceBreaks := min 65535 (x.stats.sequenceBreaks + 1) }
      | .pointRestart | .headFault | .pointLost | .start | .negative | .overflow => x.stats }

/-- A section record after a disturbance with `cause` from a departure (R53, R88): the cause, with repeat count 0; a
DISTURBED one keeps its cause and counts a repeat. -/
def disturbedWith (cause : Cause) (x : Section) : Section :=
  match x.mode with
  | .unused => x
  | .disturbed _ => { x with repeatCount := min 255 (x.repeatCount + 1) }
  | .prepared | .sweeping | .occupied | .clearing _ | .clear => { x with mode := .disturbed cause, repeatCount := 0 }

/-- The STATE record of that disturbance at section `n` of `s`: none where the name stays (R79). -/
def disturbanceRecord (cause : Cause) (s : State) (n : SectionId) : Option RecordBody :=
  match (s.sec n).mode with
  | .unused | .disturbed _ => none
  | .prepared | .sweeping | .occupied | .clearing _ | .clear =>
    some (.state n (s.sec n).mode.name .disturbed (some cause) (s.sec n).net)

/-- The WARNING record of R49, where the value taken differs from the value held. -/
def warned (d : PointId) (before after : Bool) (s : State) : State :=
  if before = after then s
  else append (.point d .inSync .inSync none (if after = true then .warningOn else .warningOff)) s

/-! ### The configuration image -/

/-- The image fields checked for range (R8, R184). -/
structure ImageInRange (img : List Byte) : Prop where
  lineRate : (byteAt img 7).toNat ≤ 2
  portRate : (byteAt img 8).toNat ≤ 2
  window : 2 ≤ (byteAt img 9).toNat ∧ (byteAt img 9).toNat ≤ 60
  limit : 1 ≤ (byteAt img 10).toNat ∧ (byteAt img 10).toNat ≤ 4
  mode : (byteAt img 11).toNat ≤ 1
  ports : ∀ i : Fin 4,
    let w := halfAt img (252 + 4 * i.val + 2)
    w.extractLsb' 9 5 = 0 ∧ 5 ≤ (w.extractLsb' 0 9).toNat ∧ (w.extractLsb' 0 9).toNat ≤ 500
  points : ∀ d : PointId,
    let b := fun k => byteAt img (12 + 6 * d.val + k)
    (b 0).getLsbD 7 = true →
      (b 0).extractLsb' 4 3 = 0 ∧ (b 0).extractLsb' 0 4 ≠ 0 ∧
      ((b 1).toNat < 24 ∨ b 1 = 0xFF) ∧ ((b 2).toNat < 24 ∨ b 2 = 0xFF) ∧
      4 ≤ (b 4).toNat ∧ (b 4).toNat ≤ 50 ∧
      2 ≤ ((b 5).extractLsb' 4 4).toNat ∧ ((b 5).extractLsb' 0 4).toNat ≤ 5
  sections : ∀ n : SectionId,
    let b := fun k => byteAt img (204 + 2 * n.val + k)
    (b 0).getLsbD 7 = true →
      (b 0).extractLsb' 2 5 = 0 ∧ (b 0).extractLsb' 0 2 ≠ 0 ∧ (b 1).toNat ≤ 200

/-- The section a side byte gives: 0 to 23, or FFh for NONE (10.9). -/
def SideIs (b : Byte) (x : Option SectionId) : Prop :=
  match x with
  | some n => b.toNat = n.val
  | none => b = 0xFF

/-- The entry of a used point, by the bytes of 10.9 (R184). -/
structure PointEntryIs (img : List Byte) (d : PointId) (c : PointCfg) : Prop where
  sideA : SideIs (byteAt img (12 + 6 * d.val + 1)) c.sideA
  sideB : SideIs (byteAt img (12 + 6 * d.val + 2)) c.sideB
  primary : c.primary.val = ((byteAt img (12 + 6 * d.val + 3)).extractLsb' 4 4).toNat
  secondary : c.secondary.val = ((byteAt img (12 + 6 * d.val + 3)).extractLsb' 0 4).toNat
  axleLimit : c.axleLimit = ((byteAt img (12 + 6 * d.val)).extractLsb' 0 4).toNat
  period : c.period = 5 * (byteAt img (12 + 6 * d.val + 4)).toNat
  silenceLimit : c.silenceLimit = ((byteAt img (12 + 6 * d.val + 5)).extractLsb' 4 4).toNat
  gapLimit : c.gapLimit = ((byteAt img (12 + 6 * d.val + 5)).extractLsb' 0 4).toNat

/-- The entry of a used section, by the bytes of 10.9 (R184). -/
structure SectionEntryIs (img : List Byte) (n : SectionId) (c : SectionCfg) : Prop where
  preparatory : c.preparatory = (byteAt img (204 + 2 * n.val)).getLsbD 0
  direct : c.direct = (byteAt img (204 + 2 * n.val)).getLsbD 1
  clearDelay : c.clearDelay = 10 * (byteAt img (204 + 2 * n.val + 1)).toNat

/-- The first byte of a port entry (10.9). -/
def portEntryAt (p : PortId) : Nat :=
  match p with
  | .ixa => 252
  | .ixb => 256
  | .mnt => 260
  | .recorder => 264

/-- The attention settings of a port entry, by the bytes of 10.9, taken into `x` (R10, R184). -/
def withEntry (img : List Byte) (p : PortId) (x : Watch) : Watch :=
  let w := halfAt img (portEntryAt p + 2)
  let code := w.extractLsb' 14 2
  { x with
    mask := (byteAt img (portEntryAt p)).extractLsb' 0 5
    trigger := if code = 0 then 1 else if code = 1 then 8 else if code = 2 then 64 else 256
    dwellTime := 10 * (w.extractLsb' 0 9).toNat }

/-- Point `d` of the image is used. -/
def UsedPoint (img : List Byte) (d : PointId) : Prop := (byteAt img (12 + 6 * d.val)).getLsbD 7 = true

/-- Section `n` of the image is used. -/
def UsedSection (img : List Byte) (n : SectionId) : Prop := (byteAt img (204 + 2 * n.val)).getLsbD 7 = true

/-- Used point `d` names section `n` on the side. -/
def Names (img : List Byte) (d : PointId) (side : Side) (n : SectionId) : Prop :=
  UsedPoint img d ∧
    match side with
    | .a => (byteAt img (12 + 6 * d.val + 1)).toNat = n.val
    | .b => (byteAt img (12 + 6 * d.val + 2)).toNat = n.val

/-- A list of one to six points holds exactly the used points that name a section. -/
def NamedByOneToSix (img : List Byte) (n : SectionId) : Prop :=
  ∃ ds : List PointId, ds.Nodup ∧ (∀ d, d ∈ ds ↔ Names img d .a n ∨ Names img d .b n) ∧
    1 ≤ ds.length ∧ ds.length ≤ 6

/-- The track plan is consistent: none of the failings of R9. -/
structure PlanConsistent (img : List Byte) : Prop where
  sides : ∀ d, UsedPoint img d → byteAt img (12 + 6 * d.val + 1) ≠ byteAt img (12 + 6 * d.val + 2)
  used : ∀ d side n, Names img d side n → UsedSection img n
  lines : ∀ d, UsedPoint img d →
    ((byteAt img (12 + 6 * d.val + 3)).extractLsb' 4 4).toNat ≤ 3 ∧
      ((byteAt img (12 + 6 * d.val + 3)).extractLsb' 0 4).toNat ≤ 3
  named : ∀ n, UsedSection img n → NamedByOneToSix img n

end Sys2Proof.Claims

open Sys2Proof Sys2Proof.Machine Sys2Proof.Safety Sys2Proof.Claims

/-! ### The machine -/

/-- A step runs the command at the front of the queue on the part with the queue's rest; with none waiting the part
idles (log 2). -/
def Obligations.StepRunsFrontCommand : Prop :=
  (∀ (c : Instr) (rest : List Instr) (s : State),
      step { s with pending := c :: rest } = exec c { s with pending := rest }) ∧
    ∀ s : State, s.pending = [] → step s = .next s

/-- Every command answers a next state from every state, and leaves the queue alone; a command the state does not
allow leaves it as it is (log 1). -/
def Obligations.EveryCommandAnswersNext : Prop :=
  ∀ (c : Instr) (s : State), ∃ t, exec c s = .next t ∧ t.pending = s.pending

/-- The state after reset meets every invariant below. -/
def Obligations.ResetIsSound : Prop :=
  AttentionSound State.reset ∧ JournalSound State.reset ∧ PortsSound State.reset ∧ ReceptionSound State.reset ∧
    PointsSound State.reset ∧ SectionsSound State.reset ∧ SyncSound State.reset ∧ PassageSound State.reset ∧
    TxnSound State.reset

/-! ### Starts (chapter 1) -/

/-- RESET_INPUT_LOW (R11), from every state; and while the input is low every command but a start, the reset input
and the Time Base leaves the part as it is (log 7). -/
def Obligations.ResetInputLowHoldsInactive : Prop :=
  (∀ s : State, ∃ t, exec .resetInputLow s = .next t ∧
      t = { s with resetLow := true, memSelect := false, attention := t.attention } ∧
      (∀ p, t.attn p = false) ∧ ∀ p, transmitting p t = none) ∧
    ∀ (c : Instr) (s : State), s.resetLow = true → (∀ low, c ≠ .coldStart low) → c ≠ .resetInputLow →
      c ≠ .timeBaseMillisecond → exec c s = .next s

/-- COLD_START (R12), from every state: every value of the rule's list. A port whose receive line is low has its
break flag set, and the end of that break clears it and does nothing else. The image parameters, and the other values of
R10 that R12 does not set, hold until the next load ends (R10, R33, log 25). How a block that is out of service is held,
and that the transaction counter and the arbiter's pointers are kept, is the model's (log 12). -/
def Obligations.ColdStartSets : Prop :=
  ∀ (low : PortLevels) (s : State), ∃ t, exec (.coldStart low) s = .next t ∧
    t = { s with
          resetLow := false
          part := .starting
          startKind := .cold
          imageFault := .none
          imageLabel := 0
          time := 0
          memSelect := true
          handOff := none
          restartServed := false
          lines := t.lines
          points := t.points
          sections := t.sections
          slots := t.slots
          journal := t.journal
          ports := t.ports
          watches := t.watches
          attention := t.attention } ∧
    t.journal.writeSeq = 0 ∧ t.journal.held = 0 ∧ (∀ seq, t.journal.at seq = none) ∧
    (∀ l, t.line l = ⟨false, none, ⟨.search, [], none, false⟩, 0, 0, 0, 0, 0, none, []⟩) ∧
    (∀ d, t.point d = ⟨(s.point d).cfg, .unused, false, false, false, false, false, none, none, none,
      ⟨0, 0, 0, 0, 0, 0⟩⟩) ∧
    (∀ n, t.sec n = ⟨(s.sec n).cfg, .unused, 0, 0, 0, [], false, 0, false, false, none⟩) ∧ (∀ k, t.slot k = none) ∧
    (∀ p, t.port p = ⟨false, 0, ⟨.search, [], none, lineLow low p⟩, [], [], 0, .sections, 0, .r57600, .r57600, 16⟩) ∧
    (∀ p, t.watch p = ⟨0, 0, none, 1000, 1, 0b11111, false, false, false, false⟩) ∧
    (∀ p, t.attn p = false) ∧
    ∀ p, lineLow low p = true → ∃ u, exec (.portBreakEnd p) t = .next u ∧
      Settled u (withPort t p fun x => { x with asm := ⟨.search, [], none, false⟩ })

/-- LOAD_END with fault NONE (R7, R10, R14, R77): every item of R14's table, the boundary lists of R3, every value of
the image by its bytes (R184, 10.9) and the START record. That the record's append starts a dwell timer with the image's
dwell time is log 16; that a port with the same rate keeps its frame, and that the break flag stays, log 21; that a
transmitter with an answer in its list is still sending, log 13; that deliveries that wait are dropped, log 10; how an
unused point or section is held, log 12. -/
def Obligations.LoadEndEntersRunning : Prop :=
  ∀ (image : List Byte) (s : State), s.resetLow = false → s.part = .starting →
    imageFaultOf (presented image) = .none → ∃ t, exec (.loadEnd image) s = .next t ∧
    let img := presented image
    let rate : PortRate := if byteAt img 8 = 0 then .r57600 else if byteAt img 8 = 1 then .r115200 else .r230400
    t = { s with
          part := .running
          imageFault := .none
          imageLabel := halfAt img 3
          memSelect := false
          lineRate := if byteAt img 7 = 0 then .r38400 else if byteAt img 7 = 1 then .r57600 else .r115200
          handOff := none
          txnCounter := 1
          commitLimit := (byteAt img 10).toNat
          confirmWindow := 1000 * (byteAt img 9).toNat
          arbMode := if byteAt img 11 = 0 then .rotate else .fixed
          arbOne := .low
          arbTwo := .recorder
          restartServed := false
          lines := t.lines
          points := t.points
          sections := t.sections
          slots := t.slots
          journal := t.journal
          ports := t.ports
          watches := t.watches
          attention := t.attention } ∧
      AttentionSound t ∧
      t.journal = s.journal.push s.time (.start s.startKind (halfAt img 3) .none) ∧
      (∀ l, t.line l = { s.line l with up := false, silence := none, asm := ⟨.search, [], none, false⟩,
                                       deliveries := [] }) ∧
      (∀ d, UsedPoint img d → ∃ c, PointEntryIs img d c ∧
        t.point d = { Point.cold with cfg := some c, mode := .hunt, stats := (s.point d).stats }) ∧
      (∀ d, ¬ UsedPoint img d → t.point d = { Point.cold with stats := (s.point d).stats }) ∧
      (∀ n, UsedSection img n →
        (∃ c, SectionEntryIs img n c ∧
          t.sec n = { Section.cold with cfg := some c, mode := .disturbed .start, boundary := (t.sec n).boundary }) ∧
        (∀ b, b ∈ (t.sec n).boundary ↔ Names img b.point b.side n) ∧
        (t.sec n).boundary.Pairwise (fun b c => b.point < c.point) ∧
        1 ≤ (t.sec n).boundary.length ∧ (t.sec n).boundary.length ≤ 6) ∧
      (∀ n, ¬ UsedSection img n → t.sec n = Section.cold) ∧
      (∀ k, t.slot k = none) ∧
      (∀ p, t.port p = { s.port p with
                         rxRate := rate
                         txRate := if (s.port p).answers = [] then rate else (s.port p).txRate
                         asm := if (s.port p).rxRate = rate then (s.port p).asm
                                else ⟨.search, [], none, (s.port p).asm.breakFlag⟩
                         threshold := (byteAt img (portEntryAt p + 1)).toNat }) ∧
      ∀ p, t.watch p = watchAppend s.journal.writeSeq false (withEntry img p (s.watch p))

/-- LOAD_END with any other fault (R7, R15): UNCONFIGURED, the code and the label kept, the START record; the
attention settings stay. That the line rate, the commitment limit, the window and the counter stay, and how a point or
section out of service is held, is log 12; that the image parameters end with the load, log 25; that a port with the
same rate keeps its frame, and that the break flag stays, log 21; that a transmitter with an answer in its list is still
sending, log 13; that deliveries that wait are dropped, log 10; the dwell time of the START record, log 16. -/
def Obligations.LoadEndEntersUnconfigured : Prop :=
  ∀ (image : List Byte) (s : State), s.resetLow = false → s.part = .starting →
    imageFaultOf (presented image) ≠ .none → ∃ t, exec (.loadEnd image) s = .next t ∧
    let fault := imageFaultOf (presented image)
    let label := if fault = .noImage then 0 else halfAt (presented image) 3
    t = { s with
          part := .unconfigured
          imageFault := fault
          imageLabel := label
          memSelect := false
          handOff := none
          arbMode := .rotate
          arbOne := .low
          arbTwo := .recorder
          restartServed := false
          lines := t.lines
          points := t.points
          sections := t.sections
          slots := t.slots
          journal := t.journal
          ports := t.ports
          watches := t.watches
          attention := t.attention } ∧
      AttentionSound t ∧
      t.journal = s.journal.push s.time (.start s.startKind label fault) ∧
      (∀ l, t.line l = { s.line l with up := false, silence := none, asm := ⟨.search, [], none, false⟩,
                                       deliveries := [] }) ∧
      (∀ d, t.point d = { Point.cold with stats := (s.point d).stats }) ∧
      (∀ n, t.sec n = Section.cold) ∧ (∀ k, t.slot k = none) ∧
      (∀ p, t.port p = { s.port p with
                         rxRate := .r57600
                         txRate := if (s.port p).answers = [] then .r57600 else (s.port p).txRate
                         asm := if (s.port p).rxRate = .r57600 then (s.port p).asm
                                else ⟨.search, [], none, (s.port p).asm.breakFlag⟩ }) ∧
      ∀ p, t.watch p = watchAppend s.journal.writeSeq false (s.watch p)

/-- The fault code of a load is that of the first check that fails (R7, R8, R9, R184), whatever the image's bytes. -/
def Obligations.FirstFailingCheckGivesCode : Prop :=
  ∀ img : List Byte,
    let marker := img.take 3 = [0x9E, 0x24, 0x32]
    let length := halfAt img 5 = 270
    let crc := crc16 (img.take 268) = halfAt img 268
    (imageFaultOf img = .noImage ↔ ¬ marker) ∧
      (imageFaultOf img = .length ↔ marker ∧ ¬ length) ∧
      (imageFaultOf img = .check ↔ marker ∧ length ∧ ¬ crc) ∧
      (imageFaultOf img = .range ↔ marker ∧ length ∧ crc ∧ ¬ ImageInRange img) ∧
      (imageFaultOf img = .topology ↔ marker ∧ length ∧ crc ∧ ImageInRange img ∧ ¬ PlanConsistent img) ∧
      (imageFaultOf img = .none ↔ marker ∧ length ∧ crc ∧ ImageInRange img ∧ PlanConsistent img)

/-- WARM_START (R16, R29, R33, R77, R102, R140): the last byte of MNT's OK to RESTART leaves. ANSWER_SENT on MNT says
the same event (log 14). The image parameters, the line rate, the arbiter mode, the limit and the window hold until the
next load ends (R10, R33, log 25). That the head of another port's answer list is in transmission, and alone is kept, is
log 13; that the counter and the arbiter's pointers are kept, and how a block out of service is held, log 12; that
deliveries that wait are dropped, log 10. -/
def Obligations.WarmStartSets : Prop :=
  ∀ (c : Instr) (s : State) (a : Answer) (rest : List Answer),
    c = .warmStart ∨ c = .answerSent .mnt → s.resetLow = false → PortsSound s →
    (s.port .mnt).answers = a :: rest → a.kind = .servedRestart → ∃ t, exec c s = .next t ∧
    t = { s with
          part := .starting
          startKind := .warm
          memSelect := true
          handOff := none
          restartServed := false
          lines := t.lines
          points := t.points
          sections := t.sections
          slots := t.slots
          ports := t.ports
          watches := t.watches
          attention := t.attention } ∧
      AttentionSound t ∧
      (∀ l, t.line l = { s.line l with up := false, silence := none, asm := ⟨.search, [], none, false⟩,
                                       deliveries := [] }) ∧
      (∀ d, t.point d = { Point.cold with cfg := (s.point d).cfg, stats := (s.point d).stats }) ∧
      (∀ n, t.sec n = { Section.cold with cfg := (s.sec n).cfg }) ∧
      (∀ k, t.slot k = none) ∧
      (∀ p, t.port p = { s.port p with
                         isolated := false
                         errorLevel := 0
                         queue := []
                         answers := if p = .mnt then [] else (s.port p).answers.take 1
                         outstanding := if p = .mnt then 0 else slotAnswers ((s.port p).answers.take 1)
                         view := .sections
                         viewCursor := 0
                         txRate := if p = .mnt then (s.port p).rxRate else (s.port p).txRate
                         threshold := 16 }) ∧
      ∀ p, t.watch p = ⟨(s.watch p).cursor, (s.watch p).slipCount, some 1000, 1000, 1, 0b11111,
        false, false, false, false⟩

/-- TIME_BASE_MILLISECOND (R5), from every state: the count rises by one; the timers of the ports run while the
reset input is high, those of the lines, points, sections and transactions in RUNNING only (R13; logs 3, 4, 7). -/
def Obligations.TimeBaseCounts : Prop :=
  ∀ s : State, ∃ t, exec .timeBaseMillisecond s = .next t ∧
    t = { s with
          time := s.time + 1
          lines := t.lines
          points := t.points
          sections := t.sections
          slots := t.slots
          ports := t.ports
          watches := t.watches
          attention := t.attention } ∧
      AttentionSound t ∧
      (s.resetLow = false → ∀ p,
        t.port p = { s.port p with
                     asm := { (s.port p).asm with gap := (s.port p).asm.gap.map (· - 1) } } ∧
        t.watch p = { s.watch p with dwell := (s.watch p).dwell.map (· - 1) }) ∧
      (s.resetLow = true → ∀ p, t.port p = s.port p ∧ t.watch p = s.watch p) ∧
      (InService s →
        (∀ l, t.line l = { s.line l with
                           silence := (s.line l).silence.map (· - 1)
                           asm := { (s.line l).asm with gap := (s.line l).asm.gap.map (· - 1) } }) ∧
        (∀ d, t.point d = { s.point d with silence := (s.point d).silence.map (· - 1) }) ∧
        (∀ n r, (s.sec n).mode = .clearing r → t.sec n = { s.sec n with mode := .clearing (r - 1) }) ∧
        (∀ n, (s.sec n).mode.name ≠ .clearing → t.sec n = s.sec n) ∧
        ∀ k, t.slot k = (s.slot k).map fun u => { u with window := u.window - 1 }) ∧
      (¬ InService s →
        (∀ l, t.line l = s.line l) ∧ (∀ d, t.point d = s.point d) ∧ (∀ n, t.sec n = s.sec n) ∧
          ∀ k, t.slot k = s.slot k)

/-! ### Trackside lines (chapter 2) -/

/-- TRK_GOOD_CHARACTER in SEARCH and in COLLECT before the sixth byte (R20, R21); nothing is taken while the receiver
is off, while a break is in progress, or of a character that began before the receiver was on (R18, R24, log 17). -/
def Obligations.TracksideCharacter : Prop :=
  ∀ (s : State) (l : LineId) (b : Byte),
    (InService s → (s.line l).asm.breakFlag = false →
      ((s.line l).asm.state = .search → b = 0xC3 → ∃ t, exec (.trkGoodCharacter l b false) s = .next t ∧
        Settled t (s.setLine l { s.line l with asm := ⟨.collect, [], some 2, false⟩ })) ∧
      ((s.line l).asm.state = .search → b ≠ 0xC3 → ∃ t, exec (.trkGoodCharacter l b false) s = .next t ∧
        Settled t s) ∧
      ((s.line l).asm.state = .collect → (s.line l).asm.held.length < 5 →
        ∃ t, exec (.trkGoodCharacter l b false) s = .next t ∧
        Settled t (s.setLine l
          { s.line l with asm := ⟨.collect, (s.line l).asm.held ++ [b], some 2, false⟩ }))) ∧
    ∀ early : Bool, ¬ InService s ∨ (s.line l).asm.breakFlag = true ∨ early = true →
      exec (.trkGoodCharacter l b early) s = .next s ∧ exec (.trkFramingError l early) s = .next s ∧
        exec (.trkBreak l early) s = .next s

/-- TRK_GOOD_CHARACTER with the sixth byte after the marker (R21, R25, R26, R28): rejected with CHECK on a CRC
mismatch or a spare bit set; else a valid frame, counted, that keeps or makes the line UP and is handed on, or is
counted as MISROUTED. That a telegram handed on waits in a queue without bound is log 10. -/
def Obligations.TracksideFrameComplete : Prop :=
  ∀ (s : State) (l : LineId) (b : Byte), InService s → (s.line l).asm.state = .collect →
    (s.line l).asm.breakFlag = false → (s.line l).asm.held.length = 5 →
    let bytes := (s.line l).asm.held ++ [b]
    let x := lineSearching (s.line l)
    let good := crc16 (bytes.take 4) = halfAt bytes 4 ∧ (byteAt bytes 0).getLsbD 6 = false ∧
      (byteAt bytes 0).getLsbD 7 = false
    let valid := { x with
      valid := min 65535 (x.valid + 1)
      lastValid := some s.time
      up := true
      silence := some 500 }
    let del := telegramOf bytes
    let onItsLine := ∃ c, (s.point del.point).cfg = some c ∧ (c.primary = l ∨ c.secondary = l)
    let heard := fun y : Line => if x.up = true then s.setLine l y else append (.line l true) (s.setLine l y)
    ∃ t, exec (.trkGoodCharacter l b false) s = .next t ∧
      (¬ good → Settled t (s.setLine l { x with check := min 65535 (x.check + 1) })) ∧
      (good → onItsLine → Settled t (heard { valid with deliveries := x.deliveries ++ [del] })) ∧
      (good → ¬ onItsLine → Settled t (heard { valid with misrouted := min 65535 (x.misrouted + 1) }))

/-- The fields of a telegram, from its bytes 1 to 6 (R19, 10.2). -/
def Obligations.TelegramFields : Prop :=
  ∀ b1 b2 b3 b4 b5 b6 : Byte,
    let del := telegramOf [b1, b2, b3, b4, b5, b6]
    del.point.val = b1.toNat % 32 ∧ del.telegram.seq.toNat = b2.toNat % 8 ∧
      del.telegram.restart = b1.getLsbD 5 ∧ del.telegram.warning = b2.getLsbD 3 ∧
      del.telegram.h1 = b2.getLsbD 4 ∧ del.telegram.h2 = b2.getLsbD 5 ∧
      del.telegram.fault1 = b2.getLsbD 6 ∧ del.telegram.fault2 = b2.getLsbD 7 ∧
      del.telegram.cAB = b3 ∧ del.telegram.cBA = b4

/-- TRK_FRAMING_ERROR, TRK_BREAK, TRK_BREAK_END, TRK_GAP_TIMEOUT and LINE_SILENCE_EXPIRY (R22, R23, R24, R28). -/
def Obligations.TracksideErrorsAndTimers : Prop :=
  ∀ (s : State) (l : LineId), InService s →
    let x := s.line l
    (x.asm.breakFlag = false → ∃ t, exec (.trkFramingError l false) s = .next t ∧
      Settled t (s.setLine l { lineSearching x with lineError := min 65535 (x.lineError + 1) })) ∧
    (x.asm.breakFlag = false → ∃ t, exec (.trkBreak l false) s = .next t ∧
      Settled t (s.setLine l
        { x with asm := ⟨.search, [], none, true⟩, lineError := min 65535 (x.lineError + 1) })) ∧
    (x.asm.breakFlag = true → ∃ t, exec (.trkBreakEnd l) s = .next t ∧
      Settled t (s.setLine l { x with asm := ⟨.search, [], none, false⟩ })) ∧
    (x.asm.state = .collect → x.asm.gap = some 0 → ∃ t, exec (.trkGapTimeout l) s = .next t ∧
      Settled t (s.setLine l { lineSearching x with timeout := min 65535 (x.timeout + 1) })) ∧
    (x.up = true → x.silence = some 0 → ∃ t, exec (.lineSilenceExpiry l) s = .next t ∧
      Settled t (append (.line l false) (s.setLine l { x with up := false, silence := none })))

/-! ### Detection points (chapter 3) -/

/-- TELEGRAM_DELIVERY in HUNT, LOST and FAULTED (R35, R36, R39). -/
def Obligations.TelegramOutsideSync : Prop :=
  ∀ (s : State) (l : LineId) (del : Delivery) (rest : List Delivery) (c : PointCfg), Delivers s l del rest c →
    let d := del.point
    let tel := del.telegram
    let x := heardPoint s l del c
    let s0 := taken s l rest
    ((s.point d).mode = .hunt ∨ (s.point d).mode = .lost → ¬ Faulty tel →
      ∃ t, exec (.telegramDelivery l) s = .next t ∧
        Settled t (append (pointRecordOf d (s.point d).mode.name .pending none)
          (s0.setPoint d { x with mode := .pending tel, fault1 := false, fault2 := false }))) ∧
    ((s.point d).mode = .hunt ∨ (s.point d).mode = .lost → Faulty tel →
      ∃ t, exec (.telegramDelivery l) s = .next t ∧
        Settled t (append (pointRecordOf d (s.point d).mode.name .faulted (some .headFault))
          (s0.setPoint d { x with mode := .faulted, fault1 := tel.fault1, fault2 := tel.fault2 }))) ∧
    ((s.point d).mode = .faulted → ¬ Faulty tel →
      ∃ t, exec (.telegramDelivery l) s = .next t ∧
        Settled t (append (pointRecordOf d .faulted .pending none)
          (s0.setPoint d { x with mode := .pending tel, fault1 := false, fault2 := false }))) ∧
    ((s.point d).mode = .faulted → Faulty tel →
      ∃ t, exec (.telegramDelivery l) s = .next t ∧
        Settled t (s0.setPoint d { x with fault1 := tel.fault1, fault2 := tel.fault2 }))

/-- TELEGRAM_DELIVERY in PENDING (R37, R38, R49, R60): the four tests in their order; on entry to IN_SYNC the history,
the baseline, the expected sequence, the heads, the records and a hand-off with deltas 0. -/
def Obligations.TelegramInPending : Prop :=
  ∀ (s : State) (l : LineId) (del : Delivery) (rest : List Delivery) (c : PointCfg) (cand : Telegram),
    Delivers s l del rest c → (s.point del.point).mode = .pending cand →
    let d := del.point
    let tel := del.telegram
    let x := heardPoint s l del c
    let s0 := taken s l rest
    ∃ t, exec (.telegramDelivery l) s = .next t ∧
      (Faulty tel → Settled t (append (pointRecordOf d .pending .faulted (some .headFault))
        (s0.setPoint d { x with mode := .faulted, fault1 := tel.fault1, fault2 := tel.fault2 }))) ∧
      (¬ Faulty tel → tel.seq = cand.seq + 1 →
        Settled t { warned d x.warning tel.warning (append (pointRecordOf d .pending .inSync none)
            (s0.setPoint d
              { x with
                mode := .inSync tel (some cand) tel.cAB tel.cBA (tel.seq + 1)
                h1 := tel.h1
                h2 := tel.h2
                warning := tel.warning
                stats := { x.stats with accepted := min 65535 (x.stats.accepted + 1) } })) with
          handOff := some ⟨d, 0, 0, 0, tel.seq, x.h1, x.h2, tel.h1, tel.h2, .waiting⟩ }) ∧
      (¬ Faulty tel → tel = cand →
        Settled t (s0.setPoint d
          { x with stats := { x.stats with duplicates := min 65535 (x.stats.duplicates + 1) } })) ∧
      (¬ Faulty tel → tel.seq ≠ cand.seq + 1 → tel ≠ cand →
        Settled t (s0.setPoint d { x with mode := .pending tel }))

/-- The classification of a telegram at an IN_SYNC point (R41), for every sequence, expected sequence and gap
limit. -/
def Obligations.TelegramClassification : Prop :=
  ∀ (s e : BitVec 3) (G : Nat) (last : Telegram) (older : Option Telegram), G ≤ 5 →
    (s = e → classify s e G last older = .normal) ∧
      (∀ g, 1 ≤ g → g ≤ G → s = e + BitVec.ofNat 3 g → classify s e G last older = .gap g) ∧
      (s = e - 1 → classify s e G last older = .copy last) ∧
      (∀ o, s = e - 2 → older = some o → classify s e G last older = .copy o) ∧
      (s = e - 2 → older = none → classify s e G last older = .break) ∧
      (∀ g, G < g → g ≤ 5 → s = e + BitVec.ofNat 3 g → classify s e G last older = .break)

/-- A telegram of an IN_SYNC point that is new and plausible is accepted (R42, R44, R45, R49, R58, R59, R60). -/
def Obligations.TelegramAccepted : Prop :=
  ∀ (s : State) (l : LineId) (del : Delivery) (rest : List Delivery) (c : PointCfg)
    (last : Telegram) (older : Option Telegram) (bAB bBA : Byte) (e : BitVec 3) (g : Nat),
    Delivers s l del rest c → (s.point del.point).mode = .inSync last older bAB bBA e →
    classify del.telegram.seq e c.gapLimit last older = (if g = 0 then .normal else .gap g) →
    del.telegram.restart = false → ¬ Faulty del.telegram →
    (del.telegram.cAB - bAB).toNat + (del.telegram.cBA - bBA).toNat ≤ c.axleLimit * (g + 1) →
    let d := del.point
    let tel := del.telegram
    let x := heardPoint s l del c
    ∃ t, exec (.telegramDelivery l) s = .next t ∧
      Settled t { warned d x.warning tel.warning ((taken s l rest).setPoint d
          { x with
            mode := .inSync tel (if g = 0 then some last else none) tel.cAB tel.cBA (tel.seq + 1)
            h1 := tel.h1
            h2 := tel.h2
            warning := tel.warning
            stats := { x.stats with
              accepted := min 65535 (x.stats.accepted + 1)
              lost := if g = 0 then x.stats.lost else min 65535 (x.stats.lost + g) } }) with
        handOff := some ⟨d, tel.cAB - bAB, tel.cBA - bBA, g, tel.seq, x.h1, x.h2, tel.h1, tel.h2, .waiting⟩ }

/-- A copy at an IN_SYNC point (R43): a duplicate where every field is identical, else a departure with cause
CONFLICT. -/
def Obligations.TelegramCopy : Prop :=
  ∀ (s : State) (l : LineId) (del : Delivery) (rest : List Delivery) (c : PointCfg)
    (last original : Telegram) (older : Option Telegram) (bAB bBA : Byte) (e : BitVec 3),
    Delivers s l del rest c → (s.point del.point).mode = .inSync last older bAB bBA e →
    classify del.telegram.seq e c.gapLimit last older = .copy original →
    let x := heardPoint s l del c
    ∃ t, exec (.telegramDelivery l) s = .next t ∧
      (del.telegram = original → Settled t ((taken s l rest).setPoint del.point
        { x with stats := { x.stats with duplicates := min 65535 (x.stats.duplicates + 1) } })) ∧
      (del.telegram ≠ original →
        Settled t (depart del.point c x .conflict (some del.telegram) (taken s l rest)))

/-- The departures of an IN_SYNC point on a telegram that is no copy, by the first step of R42 that decides (R42, R44,
R46, R47, R48). -/
def Obligations.TelegramDeparts : Prop :=
  ∀ (s : State) (l : LineId) (del : Delivery) (rest : List Delivery) (c : PointCfg)
    (last : Telegram) (older : Option Telegram) (bAB bBA : Byte) (e : BitVec 3),
    Delivers s l del rest c → (s.point del.point).mode = .inSync last older bAB bBA e →
    let tel := del.telegram
    let cls := classify tel.seq e c.gapLimit last older
    let x := heardPoint s l del c
    let s0 := taken s l rest
    let sum := (tel.cAB - bAB).toNat + (tel.cBA - bBA).toNat
    (∀ o, cls ≠ .copy o) → ∃ t, exec (.telegramDelivery l) s = .next t ∧
      (tel.restart = true → Settled t (depart del.point c x .pointRestart (some tel) s0)) ∧
      (tel.restart = false → Faulty tel → Settled t (depart del.point c x .headFault (some tel) s0)) ∧
      (tel.restart = false → ¬ Faulty tel → cls = .break →
        Settled t (depart del.point c x .sequence (some tel) s0)) ∧
      (tel.restart = false → ¬ Faulty tel → cls = .normal → c.axleLimit < sum →
        Settled t (depart del.point c x .implausible (some tel) s0)) ∧
      ∀ g, tel.restart = false → ¬ Faulty tel → cls = .gap g → c.axleLimit * (g + 1) < sum →
        Settled t (depart del.point c
          { x with stats := { x.stats with lost := min 65535 (x.stats.lost + g) } } .implausible (some tel) s0)

/-- What a departure does, wherever it is made (R52, R53, R54, R88, R111, R113, R115), of a point whose sides differ
(R1): first the context and its destination, the statistic of the cause and the POINT record; then each adjacent section
disturbed, side A first, with a STATE record where its name changes; then each open transaction of an adjacent section
cancelled with reason POINT, in the same order. `v` is the state before the cancellations. The appends of the records
are all that the journal and the ports' cursors, slip counts, dwell timers and SECTION latches see, and the
cancellations add the RESET latches. Nothing else changes. -/
def Obligations.DepartureEffect : Prop :=
  ∀ (s : State) (d : PointId) (c : PointCfg) (x : Point) (cause : Cause) (tel : Option Telegram),
    TxnSound s → c.sideA ≠ c.sideB →
    let adjacent := c.sideA.toList ++ c.sideB.toList
    let y := leftSync cause tel x
    let records := pointRecordOf d .inSync y.mode.name (some cause) :: adjacent.filterMap (disturbanceRecord cause s)
    ∃ v : State,
      v = { records.foldl (fun u b => append b u) s with points := v.points, sections := v.sections } ∧
      v.point d = y ∧ (∀ d', d' ≠ d → v.point d' = s.point d') ∧
      (∀ n ∈ adjacent, v.sec n = disturbedWith cause (s.sec n)) ∧ (∀ n, n ∉ adjacent → v.sec n = s.sec n) ∧
      EndedInTurn (.cancelled .point) (adjacent.flatMap (openFor s)) v (depart d c x cause tel s)

/-- POINT_SILENCE_EXPIRY (R51): LOST with the timer stopped; from IN_SYNC a departure, from PENDING and FAULTED a
POINT record alone, with the fault flags kept. That it may fall within a hand-off is log 22. -/
def Obligations.PointSilenceExpires : Prop :=
  ∀ (s : State) (d : PointId) (c : PointCfg), InService s → (s.point d).cfg = some c →
    (s.point d).silence = some 0 →
    ((s.point d).mode.name = .inSync → ∃ t, exec (.pointSilenceExpiry d) s = .next t ∧
      Settled t (depart d c (s.point d) .pointLost none s)) ∧
    ((s.point d).mode.name = .pending ∨ (s.point d).mode.name = .faulted →
      ∃ t, exec (.pointSilenceExpiry d) s = .next t ∧
        Settled t (append (pointRecordOf d (s.point d).mode.name .lost (some .pointLost))
          (s.setPoint d { s.point d with mode := .lost, silence := none })))

/-! ### Count arithmetic (chapter 4) -/

/-- The plausibility test (R59): the plain sum against L × (g + 1), and what follows for a count that ran backward by
1 to 90 axles, whatever the other count shows. -/
def Obligations.PlausibilityTest : Prop :=
  (∀ (dAB dBA : Byte) (L g : Nat),
      plausible dAB dBA L g = true ↔ dAB.toNat + dBA.toNat ≤ L * (g + 1)) ∧
    ∀ (b other : Byte) (L g k : Nat), 1 ≤ L → L ≤ 15 → g ≤ 5 → 1 ≤ k → k ≤ 90 →
      plausible (b - BitVec.ofNat 8 k - b) other L g = false ∧
        plausible other (b - BitVec.ofNat 8 k - b) L g = false

/-- HAND_OFF (R61, R63, R64, R74, R75, R117): each of the four steps in its order, and a whole hand-off as the four
steps one after the other; and no delivery is taken before the hand-off has ended. That one command may name one step or the
whole is the model's (log 11). -/
def Obligations.HandOffSteps : Prop :=
  ∀ (s : State) (h : HandOff), InService s → s.handOff = some h →
    let counts := 0 < h.dAB.toNat + h.dBA.toNat
    let active := counts ∨ (h.h1Before = false ∧ h.h1After = true) ∨ (h.h2Before = false ∧ h.h2After = true)
    let sideA := (s.point h.point).cfg.bind PointCfg.sideA
    let sideB := (s.point h.point).cfg.bind PointCfg.sideB
    let next := fun (g : Option HandOffStage) (u : State) =>
      { u with handOff := g.map fun g => { h with stage := g } }
    (∃ t, exec (.handOff .oneStep) s = .next t ∧
      (h.stage = .waiting → counts →
        Settled t (next (some .recorded)
          (append (.axle h.point h.dAB h.dBA sideA sideB h.gap h.seq) s))) ∧
      (h.stage = .waiting → ¬ counts → Settled t (next (some .recorded) s)) ∧
      (∀ n, h.stage = .recorded → sideA = some n →
        Settled t (next (some .appliedA) (applySection n h.dBA.toNat h.dAB.toNat s))) ∧
      (h.stage = .recorded → sideA = none → Settled t (next (some .appliedA) s)) ∧
      (∀ n, h.stage = .appliedA → sideB = some n →
        Settled t (next (some .appliedB) (applySection n h.dAB.toNat h.dBA.toNat s))) ∧
      (h.stage = .appliedA → sideB = none → Settled t (next (some .appliedB) s)) ∧
      (h.stage = .appliedB → active →
        Settled t (next none (reportActivity (sideA.toList ++ sideB.toList) s))) ∧
      (h.stage = .appliedB → ¬ active → Settled t (next none s))) ∧
    (h.stage = .waiting → ∃ t1 t2 t3 t4, exec (.handOff .oneStep) s = .next t1 ∧
      exec (.handOff .oneStep) t1 = .next t2 ∧ exec (.handOff .oneStep) t2 = .next t3 ∧
      exec (.handOff .oneStep) t3 = .next t4 ∧ t4.handOff = none ∧ exec (.handOff .whole) s = .next t4) ∧
    ∀ l, exec (.telegramDelivery l) s = .next s

/-- The activity report (R111, R113, R117): every open DIRECT transaction for a section named is cancelled with reason
ACTIVITY, in the order in which the sections are named, each with its RESET record, its section's open number and its
latches; no other transaction is touched. -/
def Obligations.ActivityReport : Prop :=
  ∀ (s : State) (secs : List SectionId), TxnSound s →
    let t := reportActivity secs s
    (∀ k u, t.slot k = some u ↔ s.slot k = some u ∧ ¬ (u.kind = .direct ∧ u.sec ∈ secs)) ∧
      (∀ k u, s.slot k = some u → u.kind = .direct → secs = [u.sec] →
        Ended (.cancelled .activity) k u s t) ∧
      (secs.Nodup →
        EndedInTurn (.cancelled .activity) ((secs.flatMap (openFor s)).filter fun u => u.kind == .direct) s t) ∧
      ((∀ k u, s.slot k = some u → ¬ (u.kind = .direct ∧ u.sec ∈ secs)) → t = s)

/-- An application to a used section (R65 to R72): the result as a whole number, the net it leaves, the tallies, the
passage flag from the heads of all boundary points; the fields no application touches; no other section. -/
def Obligations.ApplicationCounts : Prop :=
  ∀ (s : State) (n : SectionId) (ins outs : Nat), (s.sec n).mode ≠ .unused →
    let x := s.sec n
    let y := (applySection n ins outs s).sec n
    let result : Int := (x.net : Int) + ins - outs
    (result < 0 → y.net = 0) ∧ (2047 < result → y.net = 2047) ∧
      (0 ≤ result → result ≤ 2047 → (y.net : Int) = result) ∧
      y.inTally = min 65535 (x.inTally + ins) ∧ y.outTally = min 65535 (x.outTally + outs) ∧
      (y.passage = true ↔ ∃ b ∈ x.boundary, (s.point b.point).h1 = true ∨ (s.point b.point).h2 = true) ∧
      y.cfg = x.cfg ∧ y.boundary = x.boundary ∧ y.openTxn = x.openTxn ∧ y.inhibitA = x.inhibitA ∧
      y.inhibitB = x.inhibitB ∧ ∀ m, m ≠ n → (applySection n ins outs s).sec m = s.sec m

/-- The state a section takes at an application, in every state (R80 to R83, R86 to R89), the repeat count, and the
STATE record, written exactly when the state's name changes (R79). -/
def Obligations.SectionStateLogic : Prop :=
  ∀ (s : State) (n : SectionId) (ins outs : Nat) (c : SectionCfg), (s.sec n).cfg = some c →
    (s.sec n).mode ≠ .unused →
    let x := s.sec n
    let t := applySection n ins outs s
    let y := t.sec n
    let result : Int := (x.net : Int) + ins - outs
    let inRange := 0 ≤ result ∧ result ≤ 2047
    let vacant := y.net = 0 ∧ y.passage = false
    let ended : SectionMode := if c.clearDelay = 0 then .clear else .clearing c.clearDelay
    (inRange → x.mode = .clear → (vacant → y.mode = .clear) ∧ (¬ vacant → y.mode = .occupied)) ∧
      (inRange → x.mode = .occupied → (vacant → y.mode = ended) ∧ (¬ vacant → y.mode = .occupied)) ∧
      (∀ r, inRange → x.mode = .clearing r →
        (vacant → y.mode = .clearing r) ∧ (¬ vacant → y.mode = .occupied)) ∧
      (inRange → x.mode = .prepared → ins = 0 → y.mode = .prepared) ∧
      (inRange → x.mode = .prepared → ins ≠ 0 →
        (vacant → y.mode = ended) ∧ (¬ vacant → y.mode = .sweeping)) ∧
      (inRange → x.mode = .sweeping → (vacant → y.mode = ended) ∧ (¬ vacant → y.mode = .sweeping)) ∧
      (inRange → y.repeatCount = x.repeatCount) ∧
      (∀ q, x.mode = .disturbed q → y.mode = .disturbed q) ∧
      (∀ q, x.mode = .disturbed q → ¬ inRange → y.repeatCount = min 255 (x.repeatCount + 1)) ∧
      ((∀ q, x.mode ≠ .disturbed q) → result < 0 → y.mode = .disturbed .negative ∧ y.repeatCount = 0) ∧
      ((∀ q, x.mode ≠ .disturbed q) → 2047 < result → y.mode = .disturbed .overflow ∧ y.repeatCount = 0) ∧
      t = (if x.mode.name = y.mode.name then s.setSec n y
           else append (.state n x.mode.name y.mode.name y.mode.cause y.net) (s.setSec n y))

/-- An axle that crosses a point between two used sections is counted out of one and into the other (R4, R63): a whole
hand-off whose two results are in range leaves the sum of the two nets as it was. -/
def Obligations.HandOffConservesAxles : Prop :=
  ∀ (s : State) (h : HandOff) (c : PointCfg) (a b : SectionId), InService s → s.handOff = some h →
    h.stage = .waiting → (s.point h.point).cfg = some c → c.sideA = some a → c.sideB = some b → a ≠ b →
    (s.sec a).mode ≠ .unused → (s.sec b).mode ≠ .unused →
    h.dAB.toNat ≤ (s.sec a).net + h.dBA.toNat → (s.sec a).net + h.dBA.toNat ≤ 2047 + h.dAB.toNat →
    h.dBA.toNat ≤ (s.sec b).net + h.dAB.toNat → (s.sec b).net + h.dAB.toNat ≤ 2047 + h.dBA.toNat →
    ∃ t, exec (.handOff .whole) s = .next t ∧ t.handOff = none ∧
      (t.sec a).net + (t.sec b).net = (s.sec a).net + (s.sec b).net ∧
      (t.sec a).inTally = min 65535 ((s.sec a).inTally + h.dBA.toNat) ∧
      (t.sec b).inTally = min 65535 ((s.sec b).inTally + h.dAB.toNat) ∧
      ∀ n, n ≠ a → n ≠ b → t.sec n = s.sec n

/-! ### Section states (chapter 5) -/

/-- CLEARING_TIMER_EXPIRY (R83): CLEARING to CLEAR with its STATE record, the net it holds kept. That it may fall
within a hand-off is log 22. -/
def Obligations.ClearingTimerExpires : Prop :=
  ∀ (s : State) (n : SectionId), InService s → (s.sec n).mode = .clearing 0 →
    ∃ t, exec (.clearingTimerExpiry n) s = .next t ∧
      Settled t (append (.state n .clearing .clear none (s.sec n).net) (s.setSec n { s.sec n with mode := .clear }))

/-- SET_INHIBIT (R93, R116): the checks in their order; the flag of the issuing channel alone; an open transaction
for the section cancelled where the flag goes from off to on. -/
def Obligations.SetInhibitOutcome : Prop :=
  ∀ (s : State) (p : PortId) (r : Request) (queue : List Request) (one : RingOne) (two : RingTwo),
    Takes s p r queue one two → r.kind = .setInhibit → p = .ixa ∨ p = .ixb → s.part = .running → TxnSound s →
    let n := (r.byte 0).toNat
    let on := r.byte 1
    (24 ≤ n ∨ 2 ≤ on.toNat → ∃ t, exec .setInhibit s = .next t ∧ Settled t (Answered s p r queue one two .range [])) ∧
    ∀ m : SectionId, m.val = n → on.toNat < 2 →
      ((s.sec m).mode = .unused → ∃ t, exec .setInhibit s = .next t ∧
        Settled t (Answered s p r queue one two .notPermitted [])) ∧
      ((s.sec m).mode ≠ .unused →
        let x := s.sec m
        let was := if p = .ixa then x.inhibitA else x.inhibitB
        let s1 := s.setSec m
          (if p = .ixa then { x with inhibitA := on == 1 } else { x with inhibitB := on == 1 })
        (on = 0 ∨ was = true ∨ (∀ k u, s.slot k = some u → u.sec ≠ m) →
          ∃ t, exec .setInhibit s = .next t ∧ Settled t (Answered s1 p r queue one two .ok [])) ∧
        ∀ k u, on = 1 → was = false → s.slot k = some u → u.sec = m →
          ∃ t v, exec .setInhibit s = .next t ∧ Ended (.cancelled .inhibited) k u s1 v ∧
            Settled t (Answered v p r queue one two .ok []))

/-! ### Reset transactions (chapter 6) -/

/-- PROPOSE_RESET that passes every check opens a FREE slot (R103, R105, R106): the number is the counter's value,
advanced past open numbers; the proposer's own channel is in the confirmation set; the full window; the section's
open number; the PROPOSED record; the counter one on. -/
def Obligations.ProposalOpens : Prop :=
  ∀ (s : State) (p : PortId) (r : Request) (queue : List Request) (one : RingOne) (two : RingTwo)
    (n : SectionId) (kind : ResetKind),
    Takes s p r queue one two → r.kind = .proposeReset → p ≠ .recorder → s.part = .running →
    (r.byte 0).toNat = n.val → r.byte 1 = (if kind = .preparatory then 1 else 2) →
    (s.sec n).permits kind = true → (kind = .direct → p = .mnt) → (s.sec n).mode.name = .disturbed →
    Uninhibited s n → (∀ k u, s.slot k = some u → u.sec ≠ n) → BoundaryInSync s n →
    (kind = .direct → BoundaryFree s n) → openSlots s < s.commitLimit → s.commitLimit ≤ 4 →
    ∃ t k m number, exec .proposeReset s = .next t ∧ s.slot k = none ∧ m ≤ 3 ∧
      number = Nat.repeat nextNumber m s.txnCounter ∧
      (∀ i, i < m → ∃ j u, s.slot j = some u ∧ u.number = Nat.repeat nextNumber i s.txnCounter) ∧
      (∀ j u, s.slot j = some u → u.number ≠ number) ∧
      Settled t (Answered
        (append (.reset number n kind (.proposed p))
          { (s.setSlot k (some ⟨number, n, kind, p, p == .ixa, p == .ixb, s.confirmWindow⟩)).setSec n
              { s.sec n with openTxn := some number } with
            txnCounter := if number = 255 then 1 else number + 1 })
        p r queue one two .ok [number])

/-- PROPOSE_RESET refused (R105): the first check of the table that fails gives the answer, with no change to the
table, the section or the counter and no record; DUPLICATE carries the number already open. -/
def Obligations.ProposalRefused : Prop :=
  ∀ (s : State) (p : PortId) (r : Request) (queue : List Request) (one : RingOne) (two : RingTwo),
    Takes s p r queue one two → r.kind = .proposeReset → p ≠ .recorder → s.part = .running → TxnSound s →
    let refused := fun (result : ResultCode) (payload : List Byte) =>
      ∃ t, exec .proposeReset s = .next t ∧ Settled t (Answered s p r queue one two result payload)
    (24 ≤ (r.byte 0).toNat ∨ (r.byte 1 ≠ 1 ∧ r.byte 1 ≠ 2) → refused .range []) ∧
    ∀ (n : SectionId) (kind : ResetKind), (r.byte 0).toNat = n.val →
      r.byte 1 = (if kind = .preparatory then 1 else 2) →
      let c2 := (s.sec n).mode ≠ .unused ∧ (s.sec n).permits kind = true
      let c3 := kind = .preparatory ∨ p = .mnt
      let c4 := (s.sec n).mode.name = .disturbed
      let c5 := Uninhibited s n
      let c6 := ∀ k u, s.slot k = some u → u.sec ≠ n
      let c7 := BoundaryInSync s n
      let c8 := kind = .direct → BoundaryFree s n
      let c9 := openSlots s < s.commitLimit
      (¬ c2 → refused .notPermitted []) ∧ (c2 → ¬ c3 → refused .notPermitted []) ∧
        (c2 → c3 → ¬ c4 → refused .notNeeded []) ∧
        (c2 → c3 → c4 → ¬ c5 → refused .inhibited []) ∧
        (∀ k u, c2 → c3 → c4 → c5 → s.slot k = some u → u.sec = n → refused .duplicate [u.number]) ∧
        (c2 → c3 → c4 → c5 → c6 → ¬ c7 → refused .notReady []) ∧
        (c2 → c3 → c4 → c5 → c6 → c7 → ¬ c8 → refused .notReady []) ∧
        (c2 → c3 → c4 → c5 → c6 → c7 → c8 → ¬ c9 → refused .tableFull [])

/-- CONFIRM_RESET (R91, R107 to R111): the rows of R107 in their order; the confirmation added with its record; at both
channels the completion check, and the completion or the cancellation NOT_READY. That the passage flag is false after a
DIRECT completion is the model's reading (log 24). -/
def Obligations.ConfirmationOutcome : Prop :=
  ∀ (s : State) (p : PortId) (r : Request) (queue : List Request) (one : RingOne) (two : RingTwo),
    Takes s p r queue one two → r.kind = .confirmReset → p = .ixa ∨ p = .ixb → s.part = .running → TxnSound s →
    ((∀ k u, s.slot k = some u → u.number ≠ r.byte 0) → ∃ t, exec .confirmReset s = .next t ∧
      Settled t (Answered s p r queue one two .unknownTxn [])) ∧
    ∀ k u, s.slot k = some u → u.number = r.byte 0 →
      let right := u.sec.val = (r.byte 1).toNat
      let held := if p = .ixa then u.byIxa else u.byIxb
      let other := if p = .ixa then u.byIxb else u.byIxa
      let u1 := if p = .ixa then { u with byIxa := true } else { u with byIxb := true }
      let s1 := append (.reset u.number u.sec u.kind (.confirmed p)) (s.setSlot k (some u1))
      ∃ t, exec .confirmReset s = .next t ∧
        (¬ right → ∃ v, Ended (.cancelled .mismatch) k u s v ∧
          Settled t (Answered v p r queue one two .mismatch [])) ∧
        (right → held = true → Settled t (Answered s p r queue one two .duplicate [])) ∧
        (right → held = false → other = false → Settled t (Answered s1 p r queue one two .ok [0x00])) ∧
        (right → held = false → other = true → CheckPasses s u →
          ∃ v, Completed k u s1 v ∧ Settled t (Answered v p r queue one two .ok [0x01])) ∧
        (right → held = false → other = true → ¬ CheckPasses s u →
          ∃ v, Ended (.cancelled .notReady) k u s1 v ∧
            Settled t (Answered v p r queue one two .notReady []))

/-- A section leaves DISTURBED for a state of a used section in one way (R89, R109): a CONFIRM_RESET takes the request
of a channel, which names the section and the number of its open transaction; the other channel's confirmation is in the
set already; and the completion check passes, so that a DIRECT transaction was proposed from MNT. -/
def Obligations.LeavesDisturbedOnlyByBothChannels : Prop :=
  ∀ (c : Instr) (s t : State) (n : SectionId), exec c s = .next t → (s.sec n).mode.name = .disturbed →
    (t.sec n).mode.name ≠ .disturbed → (t.sec n).mode.name ≠ .unused →
    c = .confirmReset ∧
      ∃ (p : PortId) (r : Request) (queue : List Request) (one : RingOne) (two : RingTwo) (k : SlotId) (u : Txn),
        Takes s p r queue one two ∧ r.kind = .confirmReset ∧ s.slot k = some u ∧ u.number = r.byte 0 ∧ u.sec = n ∧
          (r.byte 1).toNat = n.val ∧ (p = .ixa ∧ u.byIxb = true ∨ p = .ixb ∧ u.byIxa = true) ∧ CheckPasses s u

/-- CANCEL_RESET (R112) and CONFIRM_WINDOW_EXPIRY (R114). That an expiry may fall within a hand-off is log 22. -/
def Obligations.TransactionEndings : Prop :=
  (∀ (s : State) (p : PortId) (r : Request) (queue : List Request) (one : RingOne) (two : RingTwo),
    Takes s p r queue one two → r.kind = .cancelReset → p ≠ .recorder → s.part = .running → TxnSound s →
    ((∀ k u, s.slot k = some u → u.number ≠ r.byte 0) → ∃ t, exec .cancelReset s = .next t ∧
      Settled t (Answered s p r queue one two .unknownTxn [])) ∧
    ∀ k u, s.slot k = some u → u.number = r.byte 0 → ∃ t, exec .cancelReset s = .next t ∧
      (p = .mnt → u.proposer ≠ .mnt → Settled t (Answered s p r queue one two .notPermitted [])) ∧
      (p ≠ .mnt ∨ u.proposer = .mnt → ∃ v, Ended (.cancelled .requested) k u s v ∧
        Settled t (Answered v p r queue one two .ok []))) ∧
    ∀ (s : State) (k : SlotId) (u : Txn), InService s → s.slot k = some u → u.window = 0 →
      ∃ t v, exec (.confirmWindowExpiry k) s = .next t ∧ Ended .expired k u s v ∧ Settled t v

/-! ### The axle journal (chapter 7) -/

/-- One append (R129, R133), in every state: the record in its place with its sequence and time, every other place
kept; W and H; each port's slip, dwell timer and SECTION latch; the unread counts that follow; nothing else. -/
def Obligations.AppendAndSlip : Prop :=
  ∀ (b : RecordBody) (s : State), (∀ p, s.unread p ≤ 512) →
    let t := append b s
    let W := s.journal.writeSeq
    t = { s with journal := t.journal, watches := t.watches } ∧
      t.journal.at W = some ⟨W, s.time, b⟩ ∧
      (∀ q, placeOf q ≠ placeOf W → t.journal.at q = s.journal.at q) ∧
      t.journal.writeSeq = W + 1 ∧
      (s.journal.held < 512 → t.journal.held = s.journal.held + 1) ∧
      (s.journal.held = 512 → t.journal.held = 512) ∧
      ∀ p,
        let x := s.watch p
        let y := t.watch p
        (s.unread p = 512 → y.cursor = W + 1 - 256 ∧ (y.cursor - x.cursor).toNat = 257 ∧
          y.slipCount = min 65535 (x.slipCount + 257) ∧ t.unread p = 256 ∧ y.dwell = x.dwell) ∧
        (s.unread p < 512 → y.cursor = x.cursor ∧ y.slipCount = x.slipCount ∧ t.unread p = s.unread p + 1) ∧
        (s.unread p = 0 → y.dwell = some x.dwellTime) ∧ (s.unread p ≠ 0 → y.dwell = x.dwell) ∧
        ((∃ n old new c net, b = .state n old new c net) → y.latchSection = true) ∧
        ((∀ n old new c net, b ≠ .state n old new c net) → y.latchSection = x.latchSection) ∧
        y = { x with cursor := y.cursor, slipCount := y.slipCount, dwell := y.dwell,
                     latchSection := y.latchSection }

/-- JOURNAL_READ (R135, R136, R137) and JOURNAL_SEEK (R138): the items, their number and their bytes, every field of the
seven record kinds and of the SLIP item (R183); the cursor, the slip count and the dwell timer of the asking port
alone. -/
def Obligations.JournalRequests : Prop :=
  ∀ (s : State) (p : PortId) (r : Request) (queue : List Request) (one : RingOne) (two : RingTwo),
    Takes s p r queue one two →
    let x := s.watch p
    let n := (r.byte 0).toNat
    (r.kind = .journalRead → JournalSound s →
      let asked := if n = 0 then 1 else if 4 < n then 4 else n
      let slip := if x.slipCount = 0 then 0 else 1
      let records := min (asked - slip) (s.unread p)
      (x.slipCount = 0 → s.unread p = 0 → ∃ t, exec .journalRead s = .next t ∧
        Settled t (Answered (s.setWatch p { x with dwell := some x.dwellTime }) p r queue one two .empty [])) ∧
      (0 < x.slipCount ∨ 0 < s.unread p → ∃ t payload, exec .journalRead s = .next t ∧
        Settled t (Answered (s.setWatch p
            { x with
              slipCount := 0
              cursor := x.cursor + BitVec.ofNat 32 records
              dwell := some x.dwellTime }) p r queue one two .ok payload) ∧
        payload.length = 16 * (slip + records) ∧ 1 ≤ slip + records ∧ slip + records ≤ asked ∧
        (slip = 1 → SlipIs (payload.take 16) x.cursor s.time x.slipCount) ∧
        ∀ i, i < records → ∃ e, s.journal.at (x.cursor + BitVec.ofNat 32 i) = some e ∧
          e.seq = x.cursor + BitVec.ofNat 32 i ∧
          RecordIs ((payload.drop (16 * (slip + i))).take 16) e)) ∧
    (r.kind = .journalSeek →
      (2 ≤ n → ∃ t, exec .journalSeek s = .next t ∧ Settled t (Answered s p r queue one two .range [])) ∧
      (n < 2 →
        let target := if n = 0 then s.journal.writeSeq - BitVec.ofNat 32 s.journal.held else s.journal.writeSeq
        ∃ t payload, exec .journalSeek s = .next t ∧ payload.length = 4 ∧ wordAt payload 0 = target ∧
          Settled t (Answered (s.setWatch p
            { x with cursor := target, slipCount := 0, dwell := some x.dwellTime }) p r queue one two .ok payload)))

/-- DWELL_TIMER_EXPIRY (R140, R173), in every part state: the DWELL latch if records are unread; the timer stops. -/
def Obligations.DwellTimerExpires : Prop :=
  ∀ (s : State) (p : PortId), s.resetLow = false → (s.watch p).dwell = some 0 →
    ∃ t, exec (.dwellTimerExpiry p) s = .next t ∧
      (0 < s.unread p → Settled t (s.setWatch p { s.watch p with dwell := none, latchDwell := true })) ∧
      (s.unread p = 0 → Settled t (s.setWatch p { s.watch p with dwell := none }))

/-- No command but a cold start removes or changes a record, or moves W, but by appending records stamped with the
present Time Base count (R127, R129, R130, R139). -/
def Obligations.JournalOnlyAppends : Prop :=
  ∀ (c : Instr) (s t : State), exec c s = .next t → (∀ low, c ≠ .coldStart low) →
    ∃ bodies : List RecordBody, t.journal = bodies.foldl (fun j b => j.push s.time b) s.journal

/-! ### Master ports (chapter 8) -/

/-- PORT_GOOD_CHARACTER before a frame is complete (R145, R147): the marker, other bytes in SEARCH, bytes stored in
COLLECT, and a payload length above 12. -/
def Obligations.PortCharacter : Prop :=
  ∀ (s : State) (p : PortId) (b : Byte), s.resetLow = false → (s.port p).asm.breakFlag = false →
    let x := s.port p
    let held := x.asm.held ++ [b]
    (x.asm.state = .search → b = 0x5A → ∃ t, exec (.portGoodCharacter p b) s = .next t ∧
      Settled t (withPort s p fun x => { x with asm := ⟨.collect, [], some 4, false⟩ })) ∧
    (x.asm.state = .search → b ≠ 0x5A → ∃ t, exec (.portGoodCharacter p b) s = .next t ∧ Settled t s) ∧
    (x.asm.state = .collect → held.length = 3 → 12 < b.toNat → ∃ t, exec (.portGoodCharacter p b) s = .next t ∧
      Settled t (linkErrored p (withPort s p searching))) ∧
    (x.asm.state = .collect → held.length < 3 ∨ (held.length = 3 ∧ b.toNat ≤ 12) ∨
        (3 < held.length ∧ held.length < 5 + (byteAt held 2).toNat) →
      ∃ t, exec (.portGoodCharacter p b) s = .next t ∧
        Settled t (withPort s p fun x => { x with asm := ⟨.collect, held, some 4, false⟩ }))

/-- The frame that PORT_GOOD_CHARACTER completes (R145, R147, R149 to R155), and the frame of the command REJOIN
(R153, log 9): the CRC, the code and the payload length of a well-formed request, then the rows of R150 in their order.
That a link error at level 255 can isolate is log 27. -/
def Obligations.PortFrameHandled : Prop :=
  (∀ (s : State) (p : PortId) (b : Byte), s.resetLow = false → (s.port p).asm.breakFlag = false →
    (s.port p).asm.state = .collect →
    let held := (s.port p).asm.held ++ [b]
    let k := (byteAt held 2).toNat
    held.length = 5 + k →
    let s0 := withPort s p searching
    let tag := byteAt held 0
    let good := crc16 (held.take (3 + k)) = halfAt held (3 + k)
    let asks := fun kind : RequestKind => (kind, byteAt held 1, k) ∈ requestCodes
    let isolated := (s.port p).isolated = true
    ∃ t, exec (.portGoodCharacter p b) s = .next t ∧
      (¬ good → Settled t (linkErrored p s0)) ∧
      (good → isolated → ¬ asks .rejoin → Settled t s0) ∧
      (good → ¬ isolated → (∀ kind, ¬ asks kind) → Room s p → Settled t (linkErrored p (withPort s0 p fun x =>
        { x with answers := x.answers ++ [Answer.mk .immediate tag .badRequest []] }))) ∧
      (good → asks .rejoin → Room s p → Settled t (rejoined p tag s0)) ∧
      (∀ kind, good → ¬ isolated → asks kind → kind ≠ .rejoin →
        (s.part = .starting → Room s p → Settled t (answeredAtOnce p tag .starting s0)) ∧
        (s.part ≠ .starting → 4 ≤ (s.port p).outstanding → Room s p →
          Settled t (answeredAtOnce p tag .busy s0)) ∧
        (s.part = .starting ∨ 4 ≤ (s.port p).outstanding → ¬ Room s p → Settled t (linkErrored p s0)) ∧
        (s.part ≠ .starting → (s.port p).outstanding < 4 → Settled t (withPort s0 p fun x =>
          { x with
            errorLevel := x.errorLevel - 1
            queue := x.queue ++ [Request.mk kind tag ((held.drop 3).take k)]
            outstanding := x.outstanding + 1 }))) ∧
      (good → (∀ kind, ¬ asks kind) ∧ ¬ isolated ∨ asks .rejoin → ¬ Room s p →
        Settled t (linkErrored p s0))) ∧
    ∀ (s : State) (p : PortId) (tag : Byte), s.resetLow = false → (s.port p).asm.breakFlag = false →
      (s.port p).asm.state = .search → ∃ t, exec (.rejoin p tag) s = .next t ∧
        (Room s p → Settled t (rejoined p tag s)) ∧ (¬ Room s p → Settled t (linkErrored p s))

/-- PORT_FRAMING_ERROR and PORT_GAP_TIMEOUT (R146, R147), PORT_BREAK (R148, R167) and PORT_BREAK_END (R148). -/
def Obligations.PortLineEvents : Prop :=
  ∀ (s : State) (p : PortId), s.resetLow = false →
    let x := s.port p
    (x.asm.breakFlag = false → ∃ t, exec (.portFramingError p) s = .next t ∧
      Settled t (linkErrored p (withPort s p searching))) ∧
    (x.asm.state = .collect → x.asm.gap = some 0 → ∃ t, exec (.portGapTimeout p) s = .next t ∧
      Settled t (linkErrored p (withPort s p searching))) ∧
    (x.asm.breakFlag = false → ∃ t, exec (.portBreak p) s = .next t ∧
      Settled t (append (.port p .linkReset) (s.setPort p
        { x with
          asm := ⟨.search, [], none, true⟩
          queue := []
          outstanding := x.outstanding - x.queue.length }))) ∧
    (x.asm.breakFlag = true → ∃ t, exec (.portBreakEnd p) s = .next t ∧
      Settled t (s.setPort p { x with asm := ⟨.search, [], none, false⟩ }))

/-- ANSWER_SENT (R14, R154, R156; log 13): the frame that was being sent leaves; its answer is removed, its slot is free where
it held one, and a rate that waited is taken. MNT's OK to RESTART is WarmStartSets. -/
def Obligations.AnswerSentFreesSlot : Prop :=
  ∀ (s : State) (p : PortId) (a : Answer) (rest : List Answer), s.resetLow = false →
    (s.port p).answers = a :: rest → (p = .mnt → a.kind ≠ .servedRestart) →
    transmitting p s = some (answerFrame a) ∧ ∃ t, exec (.answerSent p) s = .next t ∧
      Settled t (withPort s p fun x =>
        { x with
          answers := rest
          outstanding := x.outstanding - (if a.kind = .immediate then 0 else 1)
          txRate := x.rxRate })

/-- An answer frame (R156, R180, 10.3, 10.8): the start byte, the tag, the result code, the length, the payload, and the CRC
over the bytes from the tag to the end of the payload; and the CRC's two check values. -/
def Obligations.AnswerFrameBytes : Prop :=
  (∀ a : Answer, a.payload.length ≤ 64 →
    let f := answerFrame a
    let m := a.payload.length
    f.length = 6 + m ∧ byteAt f 0 = 0xA5 ∧ byteAt f 1 = a.tag ∧ (a.result, byteAt f 2) ∈ resultCodes ∧
      (byteAt f 3).toNat = m ∧ (f.drop 4).take m = a.payload ∧
      halfAt f (4 + m) = crc16 ((f.drop 1).take (3 + m))) ∧
    crc16 [0x31, 0x32, 0x33, 0x34, 0x35, 0x36, 0x37, 0x38, 0x39] = 0x29B1 ∧ crc16 [] = 0xFFFF

/-! ### Requests (chapters 1, 8, 9) -/

/-- A request its port may not make is answered NOT_PERMITTED, and, where the port may make it, one that needs a
configuration is answered NOT_CONFIGURED in UNCONFIGURED; neither changes anything (R15, R158, R159). -/
def Obligations.RightsThenPartState : Prop :=
  ∀ (s : State) (p : PortId) (r : Request) (queue : List Request) (one : RingOne) (two : RingTwo) (c : Instr),
    Takes s p r queue one two → commandOf r.kind = some c →
    (Forbidden p r.kind → ∃ t, exec c s = .next t ∧
      Settled t (Answered s p r queue one two .notPermitted [])) ∧
    (¬ Forbidden p r.kind → s.part = .unconfigured → ¬ NeedsNoConfiguration r.kind → ∃ t, exec c s = .next t ∧
      Settled t (Answered s p r queue one two .notConfigured []))

/-- STATUS (R17) and SUMMARY (R100): every field of the answer, and nothing changed but the answer placed. -/
def Obligations.StatusAndSummary : Prop :=
  ∀ (s : State) (p : PortId) (r : Request) (queue : List Request) (one : RingOne) (two : RingTwo),
    Takes s p r queue one two →
    (r.kind = .status → ∃ t bs, exec .status s = .next t ∧ Settled t (Answered s p r queue one two .ok bs) ∧
      bs.length = 20 ∧ byteAt bs 0 = (if s.part = .running then 1 else 2) ∧
      (s.imageFault, byteAt bs 1) ∈ faultCodes ∧ halfAt bs 2 = s.imageLabel ∧ wordAt bs 4 = s.time ∧
      wordAt bs 8 = s.journal.writeSeq ∧ byteAt bs 12 = BitVec.ofNat 8 (s.port p).errorLevel ∧
      halfAt bs 13 = BitVec.ofNat 16 (s.watch p).slipCount ∧
      (byteAt bs 15).toNat = pointsIn .hunt s ∧ (byteAt bs 16).toNat = pointsIn .pending s ∧
      (byteAt bs 17).toNat = pointsIn .inSync s ∧ (byteAt bs 18).toNat = pointsIn .faulted s ∧
      (byteAt bs 19).toNat = pointsIn .lost s) ∧
    (r.kind = .summary → s.part = .running → ∃ t bs, exec .summary s = .next t ∧
      Settled t (Answered s p r queue one two .ok bs) ∧ bs.length = 9 ∧ byteAt bs 0 = 1 ∧
      halfAt bs 1 = s.imageLabel ∧
      ∀ n : SectionId, (byteAt bs (3 + n.val / 4)).toNat / 4 ^ (n.val % 4) % 4 =
        match (s.sec n).mode.name with
        | .unused => 0
        | .disturbed => 1
        | .prepared | .sweeping | .occupied | .clearing => 2
        | .clear => 3)

/-- READ_SECTION, READ_POINT and READ_LINE (R31, R57, R99, R182): RANGE beyond the last number, else OK with the
record; nothing changed but the answer placed. -/
def Obligations.RecordReads : Prop :=
  ∀ (s : State) (p : PortId) (r : Request) (queue : List Request) (one : RingOne) (two : RingTwo),
    Takes s p r queue one two → s.part = .running →
    let n := (r.byte 0).toNat
    (r.kind = .readSection →
      (24 ≤ n → ∃ t, exec .readSection s = .next t ∧ Settled t (Answered s p r queue one two .range [])) ∧
      ∀ m : SectionId, m.val = n → ∃ t bs, exec .readSection s = .next t ∧
        Settled t (Answered s p r queue one two .ok bs) ∧ SectionAnswer bs m s) ∧
    (r.kind = .readPoint →
      (32 ≤ n → ∃ t, exec .readPoint s = .next t ∧ Settled t (Answered s p r queue one two .range [])) ∧
      ∀ d : PointId, d.val = n → ∃ t bs, exec .readPoint s = .next t ∧
        Settled t (Answered s p r queue one two .ok bs) ∧ PointAnswer bs d s) ∧
    (r.kind = .readLine →
      (4 ≤ n → ∃ t, exec .readLine s = .next t ∧ Settled t (Answered s p r queue one two .range [])) ∧
      ∀ l : LineId, l.val = n → ∃ t bs, exec .readLine s = .next t ∧
        Settled t (Answered s p r queue one two .ok bs) ∧ LineRecordIs bs l (s.line l) s.time)

/-- SELECT_VIEW (R163) and READ_NEXT (R164): the view and view cursor of the asking port; the wrap mark with the last
entry. That the view cursor names an entry is PortSound, kept by every step (PortsKept). -/
def Obligations.ViewRequests : Prop :=
  ∀ (s : State) (p : PortId) (r : Request) (queue : List Request) (one : RingOne) (two : RingTwo),
    Takes s p r queue one two → s.part = .running →
    let n := (r.byte 0).toNat
    let x := s.port p
    (r.kind = .selectView →
      (3 ≤ n → ∃ t, exec .selectView s = .next t ∧ Settled t (Answered s p r queue one two .range [])) ∧
      (n < 3 → ∃ t, exec .selectView s = .next t ∧
        Settled t (Answered (s.setPort p
          { x with
            view := if n = 0 then .sections else if n = 1 then .points else .lines
            viewCursor := 0 }) p r queue one two .ok []))) ∧
    (r.kind = .readNext →
      let last := match x.view with
        | .sections => 23
        | .points => 31
        | .lines => 3
      x.viewCursor ≤ last → ∃ t bs, exec .readNext s = .next t ∧
        Settled t (Answered (s.setPort p
          { x with viewCursor := if x.viewCursor = last then 0 else x.viewCursor + 1 }) p r queue one two .ok
          ((if x.viewCursor = last then 1 else 0) :: bs)) ∧
        (∀ m : SectionId, x.view = .sections → m.val = x.viewCursor → SectionAnswer bs m s) ∧
        (∀ d : PointId, x.view = .points → d.val = x.viewCursor → PointAnswer bs d s) ∧
        ∀ l : LineId, x.view = .lines → l.val = x.viewCursor → LineRecordIs bs l (s.line l) s.time)

/-- IDENTIFY (R175) and SET_MASK (R174). -/
def Obligations.IdentifyAndSetMask : Prop :=
  ∀ (s : State) (p : PortId) (r : Request) (queue : List Request) (one : RingOne) (two : RingTwo),
    Takes s p r queue one two →
    let x := s.watch p
    let level := decide (x.trigger ≤ s.unread p)
    (r.kind = .identify → ∃ t y bs, exec .identify s = .next t ∧
      Identifies x level (byteAt bs 0) y ∧
      Settled t (Answered (s.setWatch p y) p r queue one two .ok bs) ∧ bs.length = 5 ∧
      FlagsAre (byteAt bs 1) y.latchLink y.latchSection y.latchReset level y.latchDwell ∧
      byteAt bs 2 = x.mask.setWidth 8 ∧ halfAt bs 3 = BitVec.ofNat 16 (s.unread p)) ∧
    (r.kind = .setMask → ∃ t, exec .setMask s = .next t ∧
      Settled t (Answered (s.setWatch p { x with mask := (r.byte 0).setWidth 5 }) p r queue one two .ok
        [(r.byte 0) &&& 0x1F]))

/-- CLEAR_STATISTICS (R165) and RESTART (R16), both of MNT; and no request is taken after RESTART is served (R16, R157),
while the part is STARTING (R13, R157) or within a hand-off (R62): every request command then leaves the state as it is
(that the command means nothing then is log 1). -/
def Obligations.ClearStatisticsAndRestart : Prop :=
  (∀ (s : State) (r : Request) (queue : List Request) (one : RingOne) (two : RingTwo),
    Takes s .mnt r queue one two →
    (r.kind = .clearStatistics → s.part = .running → ∃ t u, exec .clearStatistics s = .next t ∧
      Settled t (Answered u .mnt r queue one two .ok []) ∧
      u = { s with lines := u.lines, points := u.points } ∧
      (∀ l, u.line l = { s.line l with valid := 0, check := 0, timeout := 0, lineError := 0, misrouted := 0 }) ∧
      ∀ d, u.point d = { s.point d with stats := ⟨0, 0, 0, 0, 0, 0⟩ }) ∧
    (r.kind = .restart → ∃ t, exec .restart s = .next t ∧
      Settled t ({ s with arbOne := one, arbTwo := two, restartServed := true }.setPort .mnt
        { s.port .mnt with
          queue := queue
          answers := (s.port .mnt).answers ++ [Answer.mk .servedRestart r.tag .ok []] }))) ∧
    ∀ (k : RequestKind) (c : Instr) (s : State), commandOf k = some c →
      s.restartServed = true ∨ s.part = .starting ∨ (∃ h, s.handOff = some h ∧ h.stage ≠ .waiting) →
      exec c s = .next s

/-- The arbiter (R160, R161). ROTATE: the winner and both pointers after the choice are those of R160; while an
interlocking port has a request, at most two of three successive choices go elsewhere; while MNT or REC has one, one of
three goes to the pair, and a port of the pair that lost a LOW turn wins the next. FIXED: the first port of the order with
a request, and the pointers stay. -/
def Obligations.ArbiterChoice : Prop :=
  (∀ (s : State) (p : PortId) (o : RingOne) (w : RingTwo), s.arbMode = .rotate →
    (choose s = some (p, o, w) ↔ RotateWinner s p o w)) ∧
    (∀ (s1 s2 s3 : State) (p1 p2 p3 q : PortId) (o1 o2 o3 : RingOne) (w1 w2 w3 : RingTwo),
    s1.arbMode = .rotate → s2.arbMode = .rotate → s3.arbMode = .rotate →
    choose s1 = some (p1, o1, w1) → s2.arbOne = o1 → s2.arbTwo = w1 → choose s2 = some (p2, o2, w2) →
    s3.arbOne = o2 → s3.arbTwo = w2 → choose s3 = some (p3, o3, w3) →
    (s1.port q).queue ≠ [] → (s2.port q).queue ≠ [] → (s3.port q).queue ≠ [] →
    (q = .ixa ∨ q = .ixb → p1 = q ∨ p2 = q ∨ p3 = q) ∧
      (q = .mnt ∨ q = .recorder → o1 = .low ∧ (p1 = .mnt ∨ p1 = .recorder) ∨
        o2 = .low ∧ (p2 = .mnt ∨ p2 = .recorder) ∨ o3 = .low ∧ (p3 = .mnt ∨ p3 = .recorder))) ∧
    (∀ (s1 s2 : State) (p1 p2 q : PortId) (w1 w2 : RingTwo), s1.arbMode = .rotate → s2.arbMode = .rotate →
      choose s1 = some (p1, .low, w1) → s2.arbTwo = w1 → choose s2 = some (p2, .low, w2) →
      q = .mnt ∨ q = .recorder → p1 ≠ q → (s2.port q).queue ≠ [] → p2 = q) ∧
    (∀ (s : State) (p : PortId) (o : RingOne) (w : RingTwo), s.arbMode = .fixed →
      (choose s = some (p, o, w) ↔ o = s.arbOne ∧ w = s.arbTwo ∧ (s.port p).queue ≠ [] ∧
        ∀ q, (portIndex q).val < (portIndex p).val → (s.port q).queue = [])) ∧
    ∀ s : State, choose s = none ↔ ∀ p, (s.port p).queue = []

/-! ### What every step keeps -/

/-- Every step leaves each attention line asserted exactly when its port is ISOLATED, or ACTIVE with an unmasked latch or
LEVEL, and the reset input is high (R177, R11). -/
def Obligations.AttentionKept : Prop :=
  ∀ s t : State, AttentionSound s → step s = .next t → AttentionSound t

/-- Every step keeps the ring, the held count, the unread counts and the slip counts sound. -/
def Obligations.JournalKept : Prop :=
  ∀ s t : State, JournalSound s → step s = .next t → JournalSound t

/-- Every step keeps the port links sound: no port has more than four outstanding requests, an ISOLATED port has
none queued, and every view cursor names an entry of its view (R164). -/
def Obligations.PortsKept : Prop :=
  ∀ s t : State, PortsSound s → step s = .next t → PortsSound t

/-- Every step keeps the lines and the frame assemblers sound. -/
def Obligations.ReceptionKept : Prop :=
  ∀ s t : State, ReceptionSound s → step s = .next t → ReceptionSound t

/-- Every step keeps the point contexts sound: in IN_SYNC the baseline and the expected sequence are those of the last
accepted telegram; the sides of a used point differ (R1), and its gap limit is at most 5. -/
def Obligations.PointsKept : Prop :=
  ∀ s t : State, PointsSound s → step s = .next t → PointsSound t

/-- Every step keeps the nets, tallies and repeat counts in range, and the net 0 of PREPARED, CLEARING and CLEAR. -/
def Obligations.SectionsKept : Prop :=
  ∀ s t : State, SectionsSound s → step s = .next t → SectionsSound t

/-- Every step keeps R90: a used section that is not DISTURBED has every boundary point IN_SYNC. -/
def Obligations.SyncKept : Prop :=
  ∀ s t : State, SyncSound s → step s = .next t → SyncSound t

/-- Every step keeps R70: the passage flag agrees with the heads of the boundary points, but while an application that
will recompute it is still to be made. -/
def Obligations.PassageKept : Prop :=
  ∀ s t : State, PassageSound s → step s = .next t → PassageSound t

/-- Every step keeps the Reset Transaction Table sound: a commitment limit of at most 4, never more open transactions
than the limit, never two for one section. -/
def Obligations.TransactionsKept : Prop :=
  ∀ s t : State, TxnSound s → step s = .next t → TxnSound t
end

