-- ==== Sys2Proof/Laws/Table.lean ====
section
/-! SUPPORT. Reads after writes of the tables, and the numbering of the ports. -/

namespace Sys2Proof.Machine

@[simp] theorem tget_tset_same {α : Type} {n : Nat} (t : Vector α n) (i : Fin n) (x : α) :
    tget (tset t i x) i = x := by simp [tget, tset]

theorem tget_tset_ne {α : Type} {n : Nat} (t : Vector α n) {i j : Fin n} (x : α) (h : j ≠ i) :
    tget (tset t i x) j = tget t j := by
  have hv : i.val ≠ j.val := fun e => h (Fin.ext e.symm)
  simp only [tget, tset]
  exact Vector.getElem_set_ne _ _ hv

theorem tget_tset {α : Type} {n : Nat} (t : Vector α n) (i j : Fin n) (x : α) :
    tget (tset t i x) j = if j = i then x else tget t j := by
  by_cases h : j = i
  · subst h; simp
  · simp [h, tget_tset_ne t x h]

@[simp] theorem tget_tmap {α β : Type} {n : Nat} (f : Fin n → α → β) (t : Vector α n) (i : Fin n) :
    tget (tmap f t) i = f i (tget t i) := by simp [tget, tmap]

@[simp] theorem tget_tbuild {α : Type} {n : Nat} (f : Fin n → α) (i : Fin n) : tget (tbuild f) i = f i := by
  simp [tget, tbuild]

@[simp] theorem tget_replicate {α : Type} {n : Nat} (x : α) (i : Fin n) : tget (Vector.replicate n x) i = x := by
  simp [tget]

/-- Two tables with the same entries are one table. -/
theorem table_ext {α : Type} {n : Nat} {t u : Vector α n} (h : ∀ i, tget t i = tget u i) : t = u := by
  apply Vector.ext
  intro i hi
  exact h ⟨i, hi⟩

@[simp] theorem portOfIndex_portIndex (p : PortId) : portOfIndex (portIndex p) = p := by cases p <;> rfl

@[simp] theorem portIndex_portOfIndex : ∀ i : Fin 4, portIndex (portOfIndex i) = i := by decide

@[simp] theorem portIndex_inj {p q : PortId} : portIndex p = portIndex q ↔ p = q := by
  cases p <;> cases q <;> decide

/-- A saturating count stays within its top. -/
theorem satAdd_le (top x k : Nat) : satAdd top x k ≤ top := Nat.min_le_left _ _

/-- Below its top a saturating count is the plain sum. -/
theorem satAdd_eq {top x k : Nat} (h : x + k ≤ top) : satAdd top x k = x + k := Nat.min_eq_right h

@[simp] theorem tickTimer_isSome (t : Option Nat) : (tickTimer t).isSome = t.isSome := by cases t <;> rfl

/-- A timer is due exactly when it runs and stands at 0. -/
@[simp] theorem timerDue_iff (t : Option Nat) : timerDue t = true ↔ t = some 0 := by simp [timerDue]

end Sys2Proof.Machine
end

