-- ==== Sys2Proof/Laws/State.lean ====
section
/-! SUPPORT. One lemma for each field and each named update of State, so that no proof unfolds a record update;
and reads of table entries after each update. -/

namespace Sys2Proof.Machine

variable (s : State)

/-! ### setLine -/

@[simp] theorem State.setLine_resetLow (l : LineId) (x : Line) : (s.setLine l x).resetLow = s.resetLow := rfl
@[simp] theorem State.setLine_part (l : LineId) (x : Line) : (s.setLine l x).part = s.part := rfl
@[simp] theorem State.setLine_startKind (l : LineId) (x : Line) : (s.setLine l x).startKind = s.startKind := rfl
@[simp] theorem State.setLine_imageFault (l : LineId) (x : Line) : (s.setLine l x).imageFault = s.imageFault := rfl
@[simp] theorem State.setLine_imageLabel (l : LineId) (x : Line) : (s.setLine l x).imageLabel = s.imageLabel := rfl
@[simp] theorem State.setLine_time (l : LineId) (x : Line) : (s.setLine l x).time = s.time := rfl
@[simp] theorem State.setLine_memSelect (l : LineId) (x : Line) : (s.setLine l x).memSelect = s.memSelect := rfl
@[simp] theorem State.setLine_lineRate (l : LineId) (x : Line) : (s.setLine l x).lineRate = s.lineRate := rfl
@[simp] theorem State.setLine_points (l : LineId) (x : Line) : (s.setLine l x).points = s.points := rfl
@[simp] theorem State.setLine_handOff (l : LineId) (x : Line) : (s.setLine l x).handOff = s.handOff := rfl
@[simp] theorem State.setLine_sections (l : LineId) (x : Line) : (s.setLine l x).sections = s.sections := rfl
@[simp] theorem State.setLine_slots (l : LineId) (x : Line) : (s.setLine l x).slots = s.slots := rfl
@[simp] theorem State.setLine_txnCounter (l : LineId) (x : Line) : (s.setLine l x).txnCounter = s.txnCounter := rfl
@[simp] theorem State.setLine_commitLimit (l : LineId) (x : Line) : (s.setLine l x).commitLimit = s.commitLimit := rfl
@[simp] theorem State.setLine_confirmWindow (l : LineId) (x : Line) : (s.setLine l x).confirmWindow = s.confirmWindow := rfl
@[simp] theorem State.setLine_journal (l : LineId) (x : Line) : (s.setLine l x).journal = s.journal := rfl
@[simp] theorem State.setLine_ports (l : LineId) (x : Line) : (s.setLine l x).ports = s.ports := rfl
@[simp] theorem State.setLine_watches (l : LineId) (x : Line) : (s.setLine l x).watches = s.watches := rfl
@[simp] theorem State.setLine_attention (l : LineId) (x : Line) : (s.setLine l x).attention = s.attention := rfl
@[simp] theorem State.setLine_arbMode (l : LineId) (x : Line) : (s.setLine l x).arbMode = s.arbMode := rfl
@[simp] theorem State.setLine_arbOne (l : LineId) (x : Line) : (s.setLine l x).arbOne = s.arbOne := rfl
@[simp] theorem State.setLine_arbTwo (l : LineId) (x : Line) : (s.setLine l x).arbTwo = s.arbTwo := rfl
@[simp] theorem State.setLine_restartServed (l : LineId) (x : Line) : (s.setLine l x).restartServed = s.restartServed := rfl
@[simp] theorem State.setLine_pending (l : LineId) (x : Line) : (s.setLine l x).pending = s.pending := rfl
@[simp] theorem State.setLine_point (l : LineId) (x : Line) (d' : PointId) : (s.setLine l x).point d' = s.point d' := rfl
@[simp] theorem State.setLine_sec (l : LineId) (x : Line) (n' : SectionId) : (s.setLine l x).sec n' = s.sec n' := rfl
@[simp] theorem State.setLine_slot (l : LineId) (x : Line) (k' : SlotId) : (s.setLine l x).slot k' = s.slot k' := rfl
@[simp] theorem State.setLine_port (l : LineId) (x : Line) (p' : PortId) : (s.setLine l x).port p' = s.port p' := rfl
@[simp] theorem State.setLine_watch (l : LineId) (x : Line) (p' : PortId) : (s.setLine l x).watch p' = s.watch p' := rfl
@[simp] theorem State.setLine_attn (l : LineId) (x : Line) (p' : PortId) : (s.setLine l x).attn p' = s.attn p' := rfl
@[simp] theorem State.setLine_same (l : LineId) (x : Line) : (s.setLine l x).line l = x := by
  simp [State.line, State.setLine]
theorem State.setLine_ne (l : LineId) (x : Line) (l' : LineId) (h : l' ≠ l) : (s.setLine l x).line l' = s.line l' := by
  simp [State.line, State.setLine, tget_tset_ne _ _ h]

/-! ### setPoint -/

@[simp] theorem State.setPoint_resetLow (d : PointId) (x : Point) : (s.setPoint d x).resetLow = s.resetLow := rfl
@[simp] theorem State.setPoint_part (d : PointId) (x : Point) : (s.setPoint d x).part = s.part := rfl
@[simp] theorem State.setPoint_startKind (d : PointId) (x : Point) : (s.setPoint d x).startKind = s.startKind := rfl
@[simp] theorem State.setPoint_imageFault (d : PointId) (x : Point) : (s.setPoint d x).imageFault = s.imageFault := rfl
@[simp] theorem State.setPoint_imageLabel (d : PointId) (x : Point) : (s.setPoint d x).imageLabel = s.imageLabel := rfl
@[simp] theorem State.setPoint_time (d : PointId) (x : Point) : (s.setPoint d x).time = s.time := rfl
@[simp] theorem State.setPoint_memSelect (d : PointId) (x : Point) : (s.setPoint d x).memSelect = s.memSelect := rfl
@[simp] theorem State.setPoint_lineRate (d : PointId) (x : Point) : (s.setPoint d x).lineRate = s.lineRate := rfl
@[simp] theorem State.setPoint_lines (d : PointId) (x : Point) : (s.setPoint d x).lines = s.lines := rfl
@[simp] theorem State.setPoint_handOff (d : PointId) (x : Point) : (s.setPoint d x).handOff = s.handOff := rfl
@[simp] theorem State.setPoint_sections (d : PointId) (x : Point) : (s.setPoint d x).sections = s.sections := rfl
@[simp] theorem State.setPoint_slots (d : PointId) (x : Point) : (s.setPoint d x).slots = s.slots := rfl
@[simp] theorem State.setPoint_txnCounter (d : PointId) (x : Point) : (s.setPoint d x).txnCounter = s.txnCounter := rfl
@[simp] theorem State.setPoint_commitLimit (d : PointId) (x : Point) : (s.setPoint d x).commitLimit = s.commitLimit := rfl
@[simp] theorem State.setPoint_confirmWindow (d : PointId) (x : Point) : (s.setPoint d x).confirmWindow = s.confirmWindow := rfl
@[simp] theorem State.setPoint_journal (d : PointId) (x : Point) : (s.setPoint d x).journal = s.journal := rfl
@[simp] theorem State.setPoint_ports (d : PointId) (x : Point) : (s.setPoint d x).ports = s.ports := rfl
@[simp] theorem State.setPoint_watches (d : PointId) (x : Point) : (s.setPoint d x).watches = s.watches := rfl
@[simp] theorem State.setPoint_attention (d : PointId) (x : Point) : (s.setPoint d x).attention = s.attention := rfl
@[simp] theorem State.setPoint_arbMode (d : PointId) (x : Point) : (s.setPoint d x).arbMode = s.arbMode := rfl
@[simp] theorem State.setPoint_arbOne (d : PointId) (x : Point) : (s.setPoint d x).arbOne = s.arbOne := rfl
@[simp] theorem State.setPoint_arbTwo (d : PointId) (x : Point) : (s.setPoint d x).arbTwo = s.arbTwo := rfl
@[simp] theorem State.setPoint_restartServed (d : PointId) (x : Point) : (s.setPoint d x).restartServed = s.restartServed := rfl
@[simp] theorem State.setPoint_pending (d : PointId) (x : Point) : (s.setPoint d x).pending = s.pending := rfl
@[simp] theorem State.setPoint_line (d : PointId) (x : Point) (l' : LineId) : (s.setPoint d x).line l' = s.line l' := rfl
@[simp] theorem State.setPoint_sec (d : PointId) (x : Point) (n' : SectionId) : (s.setPoint d x).sec n' = s.sec n' := rfl
@[simp] theorem State.setPoint_slot (d : PointId) (x : Point) (k' : SlotId) : (s.setPoint d x).slot k' = s.slot k' := rfl
@[simp] theorem State.setPoint_port (d : PointId) (x : Point) (p' : PortId) : (s.setPoint d x).port p' = s.port p' := rfl
@[simp] theorem State.setPoint_watch (d : PointId) (x : Point) (p' : PortId) : (s.setPoint d x).watch p' = s.watch p' := rfl
@[simp] theorem State.setPoint_attn (d : PointId) (x : Point) (p' : PortId) : (s.setPoint d x).attn p' = s.attn p' := rfl
@[simp] theorem State.setPoint_same (d : PointId) (x : Point) : (s.setPoint d x).point d = x := by
  simp [State.point, State.setPoint]
theorem State.setPoint_ne (d : PointId) (x : Point) (d' : PointId) (h : d' ≠ d) : (s.setPoint d x).point d' = s.point d' := by
  simp [State.point, State.setPoint, tget_tset_ne _ _ h]

/-! ### setSec -/

@[simp] theorem State.setSec_resetLow (n : SectionId) (x : Section) : (s.setSec n x).resetLow = s.resetLow := rfl
@[simp] theorem State.setSec_part (n : SectionId) (x : Section) : (s.setSec n x).part = s.part := rfl
@[simp] theorem State.setSec_startKind (n : SectionId) (x : Section) : (s.setSec n x).startKind = s.startKind := rfl
@[simp] theorem State.setSec_imageFault (n : SectionId) (x : Section) : (s.setSec n x).imageFault = s.imageFault := rfl
@[simp] theorem State.setSec_imageLabel (n : SectionId) (x : Section) : (s.setSec n x).imageLabel = s.imageLabel := rfl
@[simp] theorem State.setSec_time (n : SectionId) (x : Section) : (s.setSec n x).time = s.time := rfl
@[simp] theorem State.setSec_memSelect (n : SectionId) (x : Section) : (s.setSec n x).memSelect = s.memSelect := rfl
@[simp] theorem State.setSec_lineRate (n : SectionId) (x : Section) : (s.setSec n x).lineRate = s.lineRate := rfl
@[simp] theorem State.setSec_lines (n : SectionId) (x : Section) : (s.setSec n x).lines = s.lines := rfl
@[simp] theorem State.setSec_points (n : SectionId) (x : Section) : (s.setSec n x).points = s.points := rfl
@[simp] theorem State.setSec_handOff (n : SectionId) (x : Section) : (s.setSec n x).handOff = s.handOff := rfl
@[simp] theorem State.setSec_slots (n : SectionId) (x : Section) : (s.setSec n x).slots = s.slots := rfl
@[simp] theorem State.setSec_txnCounter (n : SectionId) (x : Section) : (s.setSec n x).txnCounter = s.txnCounter := rfl
@[simp] theorem State.setSec_commitLimit (n : SectionId) (x : Section) : (s.setSec n x).commitLimit = s.commitLimit := rfl
@[simp] theorem State.setSec_confirmWindow (n : SectionId) (x : Section) : (s.setSec n x).confirmWindow = s.confirmWindow := rfl
@[simp] theorem State.setSec_journal (n : SectionId) (x : Section) : (s.setSec n x).journal = s.journal := rfl
@[simp] theorem State.setSec_ports (n : SectionId) (x : Section) : (s.setSec n x).ports = s.ports := rfl
@[simp] theorem State.setSec_watches (n : SectionId) (x : Section) : (s.setSec n x).watches = s.watches := rfl
@[simp] theorem State.setSec_attention (n : SectionId) (x : Section) : (s.setSec n x).attention = s.attention := rfl
@[simp] theorem State.setSec_arbMode (n : SectionId) (x : Section) : (s.setSec n x).arbMode = s.arbMode := rfl
@[simp] theorem State.setSec_arbOne (n : SectionId) (x : Section) : (s.setSec n x).arbOne = s.arbOne := rfl
@[simp] theorem State.setSec_arbTwo (n : SectionId) (x : Section) : (s.setSec n x).arbTwo = s.arbTwo := rfl
@[simp] theorem State.setSec_restartServed (n : SectionId) (x : Section) : (s.setSec n x).restartServed = s.restartServed := rfl
@[simp] theorem State.setSec_pending (n : SectionId) (x : Section) : (s.setSec n x).pending = s.pending := rfl
@[simp] theorem State.setSec_line (n : SectionId) (x : Section) (l' : LineId) : (s.setSec n x).line l' = s.line l' := rfl
@[simp] theorem State.setSec_point (n : SectionId) (x : Section) (d' : PointId) : (s.setSec n x).point d' = s.point d' := rfl
@[simp] theorem State.setSec_slot (n : SectionId) (x : Section) (k' : SlotId) : (s.setSec n x).slot k' = s.slot k' := rfl
@[simp] theorem State.setSec_port (n : SectionId) (x : Section) (p' : PortId) : (s.setSec n x).port p' = s.port p' := rfl
@[simp] theorem State.setSec_watch (n : SectionId) (x : Section) (p' : PortId) : (s.setSec n x).watch p' = s.watch p' := rfl
@[simp] theorem State.setSec_attn (n : SectionId) (x : Section) (p' : PortId) : (s.setSec n x).attn p' = s.attn p' := rfl
@[simp] theorem State.setSec_same (n : SectionId) (x : Section) : (s.setSec n x).sec n = x := by
  simp [State.sec, State.setSec]
theorem State.setSec_ne (n : SectionId) (x : Section) (n' : SectionId) (h : n' ≠ n) : (s.setSec n x).sec n' = s.sec n' := by
  simp [State.sec, State.setSec, tget_tset_ne _ _ h]

/-! ### setSlot -/

@[simp] theorem State.setSlot_resetLow (k : SlotId) (x : Option Txn) : (s.setSlot k x).resetLow = s.resetLow := rfl
@[simp] theorem State.setSlot_part (k : SlotId) (x : Option Txn) : (s.setSlot k x).part = s.part := rfl
@[simp] theorem State.setSlot_startKind (k : SlotId) (x : Option Txn) : (s.setSlot k x).startKind = s.startKind := rfl
@[simp] theorem State.setSlot_imageFault (k : SlotId) (x : Option Txn) : (s.setSlot k x).imageFault = s.imageFault := rfl
@[simp] theorem State.setSlot_imageLabel (k : SlotId) (x : Option Txn) : (s.setSlot k x).imageLabel = s.imageLabel := rfl
@[simp] theorem State.setSlot_time (k : SlotId) (x : Option Txn) : (s.setSlot k x).time = s.time := rfl
@[simp] theorem State.setSlot_memSelect (k : SlotId) (x : Option Txn) : (s.setSlot k x).memSelect = s.memSelect := rfl
@[simp] theorem State.setSlot_lineRate (k : SlotId) (x : Option Txn) : (s.setSlot k x).lineRate = s.lineRate := rfl
@[simp] theorem State.setSlot_lines (k : SlotId) (x : Option Txn) : (s.setSlot k x).lines = s.lines := rfl
@[simp] theorem State.setSlot_points (k : SlotId) (x : Option Txn) : (s.setSlot k x).points = s.points := rfl
@[simp] theorem State.setSlot_handOff (k : SlotId) (x : Option Txn) : (s.setSlot k x).handOff = s.handOff := rfl
@[simp] theorem State.setSlot_sections (k : SlotId) (x : Option Txn) : (s.setSlot k x).sections = s.sections := rfl
@[simp] theorem State.setSlot_txnCounter (k : SlotId) (x : Option Txn) : (s.setSlot k x).txnCounter = s.txnCounter := rfl
@[simp] theorem State.setSlot_commitLimit (k : SlotId) (x : Option Txn) : (s.setSlot k x).commitLimit = s.commitLimit := rfl
@[simp] theorem State.setSlot_confirmWindow (k : SlotId) (x : Option Txn) : (s.setSlot k x).confirmWindow = s.confirmWindow := rfl
@[simp] theorem State.setSlot_journal (k : SlotId) (x : Option Txn) : (s.setSlot k x).journal = s.journal := rfl
@[simp] theorem State.setSlot_ports (k : SlotId) (x : Option Txn) : (s.setSlot k x).ports = s.ports := rfl
@[simp] theorem State.setSlot_watches (k : SlotId) (x : Option Txn) : (s.setSlot k x).watches = s.watches := rfl
@[simp] theorem State.setSlot_attention (k : SlotId) (x : Option Txn) : (s.setSlot k x).attention = s.attention := rfl
@[simp] theorem State.setSlot_arbMode (k : SlotId) (x : Option Txn) : (s.setSlot k x).arbMode = s.arbMode := rfl
@[simp] theorem State.setSlot_arbOne (k : SlotId) (x : Option Txn) : (s.setSlot k x).arbOne = s.arbOne := rfl
@[simp] theorem State.setSlot_arbTwo (k : SlotId) (x : Option Txn) : (s.setSlot k x).arbTwo = s.arbTwo := rfl
@[simp] theorem State.setSlot_restartServed (k : SlotId) (x : Option Txn) : (s.setSlot k x).restartServed = s.restartServed := rfl
@[simp] theorem State.setSlot_pending (k : SlotId) (x : Option Txn) : (s.setSlot k x).pending = s.pending := rfl
@[simp] theorem State.setSlot_line (k : SlotId) (x : Option Txn) (l' : LineId) : (s.setSlot k x).line l' = s.line l' := rfl
@[simp] theorem State.setSlot_point (k : SlotId) (x : Option Txn) (d' : PointId) : (s.setSlot k x).point d' = s.point d' := rfl
@[simp] theorem State.setSlot_sec (k : SlotId) (x : Option Txn) (n' : SectionId) : (s.setSlot k x).sec n' = s.sec n' := rfl
@[simp] theorem State.setSlot_port (k : SlotId) (x : Option Txn) (p' : PortId) : (s.setSlot k x).port p' = s.port p' := rfl
@[simp] theorem State.setSlot_watch (k : SlotId) (x : Option Txn) (p' : PortId) : (s.setSlot k x).watch p' = s.watch p' := rfl
@[simp] theorem State.setSlot_attn (k : SlotId) (x : Option Txn) (p' : PortId) : (s.setSlot k x).attn p' = s.attn p' := rfl
@[simp] theorem State.setSlot_same (k : SlotId) (x : Option Txn) : (s.setSlot k x).slot k = x := by
  simp [State.slot, State.setSlot]
theorem State.setSlot_ne (k : SlotId) (x : Option Txn) (k' : SlotId) (h : k' ≠ k) : (s.setSlot k x).slot k' = s.slot k' := by
  simp [State.slot, State.setSlot, tget_tset_ne _ _ h]

/-! ### setPort -/

@[simp] theorem State.setPort_resetLow (p : PortId) (x : Port) : (s.setPort p x).resetLow = s.resetLow := rfl
@[simp] theorem State.setPort_part (p : PortId) (x : Port) : (s.setPort p x).part = s.part := rfl
@[simp] theorem State.setPort_startKind (p : PortId) (x : Port) : (s.setPort p x).startKind = s.startKind := rfl
@[simp] theorem State.setPort_imageFault (p : PortId) (x : Port) : (s.setPort p x).imageFault = s.imageFault := rfl
@[simp] theorem State.setPort_imageLabel (p : PortId) (x : Port) : (s.setPort p x).imageLabel = s.imageLabel := rfl
@[simp] theorem State.setPort_time (p : PortId) (x : Port) : (s.setPort p x).time = s.time := rfl
@[simp] theorem State.setPort_memSelect (p : PortId) (x : Port) : (s.setPort p x).memSelect = s.memSelect := rfl
@[simp] theorem State.setPort_lineRate (p : PortId) (x : Port) : (s.setPort p x).lineRate = s.lineRate := rfl
@[simp] theorem State.setPort_lines (p : PortId) (x : Port) : (s.setPort p x).lines = s.lines := rfl
@[simp] theorem State.setPort_points (p : PortId) (x : Port) : (s.setPort p x).points = s.points := rfl
@[simp] theorem State.setPort_handOff (p : PortId) (x : Port) : (s.setPort p x).handOff = s.handOff := rfl
@[simp] theorem State.setPort_sections (p : PortId) (x : Port) : (s.setPort p x).sections = s.sections := rfl
@[simp] theorem State.setPort_slots (p : PortId) (x : Port) : (s.setPort p x).slots = s.slots := rfl
@[simp] theorem State.setPort_txnCounter (p : PortId) (x : Port) : (s.setPort p x).txnCounter = s.txnCounter := rfl
@[simp] theorem State.setPort_commitLimit (p : PortId) (x : Port) : (s.setPort p x).commitLimit = s.commitLimit := rfl
@[simp] theorem State.setPort_confirmWindow (p : PortId) (x : Port) : (s.setPort p x).confirmWindow = s.confirmWindow := rfl
@[simp] theorem State.setPort_journal (p : PortId) (x : Port) : (s.setPort p x).journal = s.journal := rfl
@[simp] theorem State.setPort_watches (p : PortId) (x : Port) : (s.setPort p x).watches = s.watches := rfl
@[simp] theorem State.setPort_attention (p : PortId) (x : Port) : (s.setPort p x).attention = s.attention := rfl
@[simp] theorem State.setPort_arbMode (p : PortId) (x : Port) : (s.setPort p x).arbMode = s.arbMode := rfl
@[simp] theorem State.setPort_arbOne (p : PortId) (x : Port) : (s.setPort p x).arbOne = s.arbOne := rfl
@[simp] theorem State.setPort_arbTwo (p : PortId) (x : Port) : (s.setPort p x).arbTwo = s.arbTwo := rfl
@[simp] theorem State.setPort_restartServed (p : PortId) (x : Port) : (s.setPort p x).restartServed = s.restartServed := rfl
@[simp] theorem State.setPort_pending (p : PortId) (x : Port) : (s.setPort p x).pending = s.pending := rfl
@[simp] theorem State.setPort_line (p : PortId) (x : Port) (l' : LineId) : (s.setPort p x).line l' = s.line l' := rfl
@[simp] theorem State.setPort_point (p : PortId) (x : Port) (d' : PointId) : (s.setPort p x).point d' = s.point d' := rfl
@[simp] theorem State.setPort_sec (p : PortId) (x : Port) (n' : SectionId) : (s.setPort p x).sec n' = s.sec n' := rfl
@[simp] theorem State.setPort_slot (p : PortId) (x : Port) (k' : SlotId) : (s.setPort p x).slot k' = s.slot k' := rfl
@[simp] theorem State.setPort_watch (p : PortId) (x : Port) (p' : PortId) : (s.setPort p x).watch p' = s.watch p' := rfl
@[simp] theorem State.setPort_attn (p : PortId) (x : Port) (p' : PortId) : (s.setPort p x).attn p' = s.attn p' := rfl
@[simp] theorem State.setPort_same (p : PortId) (x : Port) : (s.setPort p x).port p = x := by
  simp [State.port, State.setPort]
theorem State.setPort_ne (p : PortId) (x : Port) (p' : PortId) (h : p' ≠ p) : (s.setPort p x).port p' = s.port p' := by
  have h' : portIndex p' ≠ portIndex p := fun e => h (portIndex_inj.mp e)
  simp [State.port, State.setPort, tget_tset_ne _ _ h']

/-! ### setWatch -/

@[simp] theorem State.setWatch_resetLow (p : PortId) (x : Watch) : (s.setWatch p x).resetLow = s.resetLow := rfl
@[simp] theorem State.setWatch_part (p : PortId) (x : Watch) : (s.setWatch p x).part = s.part := rfl
@[simp] theorem State.setWatch_startKind (p : PortId) (x : Watch) : (s.setWatch p x).startKind = s.startKind := rfl
@[simp] theorem State.setWatch_imageFault (p : PortId) (x : Watch) : (s.setWatch p x).imageFault = s.imageFault := rfl
@[simp] theorem State.setWatch_imageLabel (p : PortId) (x : Watch) : (s.setWatch p x).imageLabel = s.imageLabel := rfl
@[simp] theorem State.setWatch_time (p : PortId) (x : Watch) : (s.setWatch p x).time = s.time := rfl
@[simp] theorem State.setWatch_memSelect (p : PortId) (x : Watch) : (s.setWatch p x).memSelect = s.memSelect := rfl
@[simp] theorem State.setWatch_lineRate (p : PortId) (x : Watch) : (s.setWatch p x).lineRate = s.lineRate := rfl
@[simp] theorem State.setWatch_lines (p : PortId) (x : Watch) : (s.setWatch p x).lines = s.lines := rfl
@[simp] theorem State.setWatch_points (p : PortId) (x : Watch) : (s.setWatch p x).points = s.points := rfl
@[simp] theorem State.setWatch_handOff (p : PortId) (x : Watch) : (s.setWatch p x).handOff = s.handOff := rfl
@[simp] theorem State.setWatch_sections (p : PortId) (x : Watch) : (s.setWatch p x).sections = s.sections := rfl
@[simp] theorem State.setWatch_slots (p : PortId) (x : Watch) : (s.setWatch p x).slots = s.slots := rfl
@[simp] theorem State.setWatch_txnCounter (p : PortId) (x : Watch) : (s.setWatch p x).txnCounter = s.txnCounter := rfl
@[simp] theorem State.setWatch_commitLimit (p : PortId) (x : Watch) : (s.setWatch p x).commitLimit = s.commitLimit := rfl
@[simp] theorem State.setWatch_confirmWindow (p : PortId) (x : Watch) : (s.setWatch p x).confirmWindow = s.confirmWindow := rfl
@[simp] theorem State.setWatch_journal (p : PortId) (x : Watch) : (s.setWatch p x).journal = s.journal := rfl
@[simp] theorem State.setWatch_ports (p : PortId) (x : Watch) : (s.setWatch p x).ports = s.ports := rfl
@[simp] theorem State.setWatch_attention (p : PortId) (x : Watch) : (s.setWatch p x).attention = s.attention := rfl
@[simp] theorem State.setWatch_arbMode (p : PortId) (x : Watch) : (s.setWatch p x).arbMode = s.arbMode := rfl
@[simp] theorem State.setWatch_arbOne (p : PortId) (x : Watch) : (s.setWatch p x).arbOne = s.arbOne := rfl
@[simp] theorem State.setWatch_arbTwo (p : PortId) (x : Watch) : (s.setWatch p x).arbTwo = s.arbTwo := rfl
@[simp] theorem State.setWatch_restartServed (p : PortId) (x : Watch) : (s.setWatch p x).restartServed = s.restartServed := rfl
@[simp] theorem State.setWatch_pending (p : PortId) (x : Watch) : (s.setWatch p x).pending = s.pending := rfl
@[simp] theorem State.setWatch_line (p : PortId) (x : Watch) (l' : LineId) : (s.setWatch p x).line l' = s.line l' := rfl
@[simp] theorem State.setWatch_point (p : PortId) (x : Watch) (d' : PointId) : (s.setWatch p x).point d' = s.point d' := rfl
@[simp] theorem State.setWatch_sec (p : PortId) (x : Watch) (n' : SectionId) : (s.setWatch p x).sec n' = s.sec n' := rfl
@[simp] theorem State.setWatch_slot (p : PortId) (x : Watch) (k' : SlotId) : (s.setWatch p x).slot k' = s.slot k' := rfl
@[simp] theorem State.setWatch_port (p : PortId) (x : Watch) (p' : PortId) : (s.setWatch p x).port p' = s.port p' := rfl
@[simp] theorem State.setWatch_attn (p : PortId) (x : Watch) (p' : PortId) : (s.setWatch p x).attn p' = s.attn p' := rfl
@[simp] theorem State.setWatch_same (p : PortId) (x : Watch) : (s.setWatch p x).watch p = x := by
  simp [State.watch, State.setWatch]
theorem State.setWatch_ne (p : PortId) (x : Watch) (p' : PortId) (h : p' ≠ p) : (s.setWatch p x).watch p' = s.watch p' := by
  have h' : portIndex p' ≠ portIndex p := fun e => h (portIndex_inj.mp e)
  simp [State.watch, State.setWatch, tget_tset_ne _ _ h']

/-! ### append -/

@[simp] theorem append_resetLow (b : RecordBody) : (append b s).resetLow = s.resetLow := rfl
@[simp] theorem append_part (b : RecordBody) : (append b s).part = s.part := rfl
@[simp] theorem append_startKind (b : RecordBody) : (append b s).startKind = s.startKind := rfl
@[simp] theorem append_imageFault (b : RecordBody) : (append b s).imageFault = s.imageFault := rfl
@[simp] theorem append_imageLabel (b : RecordBody) : (append b s).imageLabel = s.imageLabel := rfl
@[simp] theorem append_time (b : RecordBody) : (append b s).time = s.time := rfl
@[simp] theorem append_memSelect (b : RecordBody) : (append b s).memSelect = s.memSelect := rfl
@[simp] theorem append_lineRate (b : RecordBody) : (append b s).lineRate = s.lineRate := rfl
@[simp] theorem append_lines (b : RecordBody) : (append b s).lines = s.lines := rfl
@[simp] theorem append_points (b : RecordBody) : (append b s).points = s.points := rfl
@[simp] theorem append_handOff (b : RecordBody) : (append b s).handOff = s.handOff := rfl
@[simp] theorem append_sections (b : RecordBody) : (append b s).sections = s.sections := rfl
@[simp] theorem append_slots (b : RecordBody) : (append b s).slots = s.slots := rfl
@[simp] theorem append_txnCounter (b : RecordBody) : (append b s).txnCounter = s.txnCounter := rfl
@[simp] theorem append_commitLimit (b : RecordBody) : (append b s).commitLimit = s.commitLimit := rfl
@[simp] theorem append_confirmWindow (b : RecordBody) : (append b s).confirmWindow = s.confirmWindow := rfl
@[simp] theorem append_ports (b : RecordBody) : (append b s).ports = s.ports := rfl
@[simp] theorem append_attention (b : RecordBody) : (append b s).attention = s.attention := rfl
@[simp] theorem append_arbMode (b : RecordBody) : (append b s).arbMode = s.arbMode := rfl
@[simp] theorem append_arbOne (b : RecordBody) : (append b s).arbOne = s.arbOne := rfl
@[simp] theorem append_arbTwo (b : RecordBody) : (append b s).arbTwo = s.arbTwo := rfl
@[simp] theorem append_restartServed (b : RecordBody) : (append b s).restartServed = s.restartServed := rfl
@[simp] theorem append_pending (b : RecordBody) : (append b s).pending = s.pending := rfl
@[simp] theorem append_line (b : RecordBody) (l' : LineId) : (append b s).line l' = s.line l' := rfl
@[simp] theorem append_point (b : RecordBody) (d' : PointId) : (append b s).point d' = s.point d' := rfl
@[simp] theorem append_sec (b : RecordBody) (n' : SectionId) : (append b s).sec n' = s.sec n' := rfl
@[simp] theorem append_slot (b : RecordBody) (k' : SlotId) : (append b s).slot k' = s.slot k' := rfl
@[simp] theorem append_port (b : RecordBody) (p' : PortId) : (append b s).port p' = s.port p' := rfl
@[simp] theorem append_attn (b : RecordBody) (p' : PortId) : (append b s).attn p' = s.attn p' := rfl
@[simp] theorem append_journal (b : RecordBody) : (append b s).journal = s.journal.push s.time b := rfl
@[simp] theorem append_watch (b : RecordBody) (p' : PortId) :
    (append b s).watch p' = watchAppend s.journal.writeSeq b.isState (s.watch p') := by
  simp [State.watch, append]

/-! ### settle -/

@[simp] theorem settle_resetLow : (settle s).resetLow = s.resetLow := rfl
@[simp] theorem settle_part : (settle s).part = s.part := rfl
@[simp] theorem settle_startKind : (settle s).startKind = s.startKind := rfl
@[simp] theorem settle_imageFault : (settle s).imageFault = s.imageFault := rfl
@[simp] theorem settle_imageLabel : (settle s).imageLabel = s.imageLabel := rfl
@[simp] theorem settle_time : (settle s).time = s.time := rfl
@[simp] theorem settle_memSelect : (settle s).memSelect = s.memSelect := rfl
@[simp] theorem settle_lineRate : (settle s).lineRate = s.lineRate := rfl
@[simp] theorem settle_lines : (settle s).lines = s.lines := rfl
@[simp] theorem settle_points : (settle s).points = s.points := rfl
@[simp] theorem settle_handOff : (settle s).handOff = s.handOff := rfl
@[simp] theorem settle_sections : (settle s).sections = s.sections := rfl
@[simp] theorem settle_slots : (settle s).slots = s.slots := rfl
@[simp] theorem settle_txnCounter : (settle s).txnCounter = s.txnCounter := rfl
@[simp] theorem settle_commitLimit : (settle s).commitLimit = s.commitLimit := rfl
@[simp] theorem settle_confirmWindow : (settle s).confirmWindow = s.confirmWindow := rfl
@[simp] theorem settle_journal : (settle s).journal = s.journal := rfl
@[simp] theorem settle_ports : (settle s).ports = s.ports := rfl
@[simp] theorem settle_watches : (settle s).watches = s.watches := rfl
@[simp] theorem settle_arbMode : (settle s).arbMode = s.arbMode := rfl
@[simp] theorem settle_arbOne : (settle s).arbOne = s.arbOne := rfl
@[simp] theorem settle_arbTwo : (settle s).arbTwo = s.arbTwo := rfl
@[simp] theorem settle_restartServed : (settle s).restartServed = s.restartServed := rfl
@[simp] theorem settle_pending : (settle s).pending = s.pending := rfl
@[simp] theorem settle_line (l' : LineId) : (settle s).line l' = s.line l' := rfl
@[simp] theorem settle_point (d' : PointId) : (settle s).point d' = s.point d' := rfl
@[simp] theorem settle_sec (n' : SectionId) : (settle s).sec n' = s.sec n' := rfl
@[simp] theorem settle_slot (k' : SlotId) : (settle s).slot k' = s.slot k' := rfl
@[simp] theorem settle_port (p' : PortId) : (settle s).port p' = s.port p' := rfl
@[simp] theorem settle_watch (p' : PortId) : (settle s).watch p' = s.watch p' := rfl
@[simp] theorem settle_attn (p' : PortId) : (settle s).attn p' = attentionOf s p' := by
  simp [State.attn, settle]
/-- The lines do not decide themselves: what they are decided from is untouched by deciding them. -/
@[simp] theorem attentionOf_settle (p' : PortId) : attentionOf (settle s) p' = attentionOf s p' := rfl

end Sys2Proof.Machine
end

