-- ==== Sys2Proof/Laws/Frames.lean ====
section
/-! SUPPORT. What each shared operation can change: a relation for each part of the state, and for each operation the
smallest one that it meets. From `h : OnlySections s t`, `h.points` says that the points are untouched, and so on. -/

namespace Sys2Proof.Machine

/-- The journal of `t` is that of `s` with records appended, stamped with the count of `s`. -/
def Grown (s t : State) : Prop := ∃ bs : List RecordBody, t.journal = bs.foldl (fun j b => j.push s.time b) s.journal

theorem Grown.refl (s : State) : Grown s s := ⟨[], rfl⟩

theorem Grown.trans {s t u : State} (h : Grown s t) (ht : t.time = s.time) (g : Grown t u) : Grown s u := by
  obtain ⟨bs, hb⟩ := h
  obtain ⟨cs, hc⟩ := g
  exact ⟨bs ++ cs, by rw [hc, hb, List.foldl_append, ht]⟩

theorem Grown.append (b : RecordBody) (s : State) : Grown s (append b s) := ⟨[b], rfl⟩

/-! ### OnlyJournal -/

/-- `t` is `s` but for the journal and the ports' reading and attention state. -/
def OnlyJournal (s t : State) : Prop := t = { s with journal := t.journal, watches := t.watches } ∧ Grown s t

theorem OnlyJournal.refl (s : State) : OnlyJournal s s := ⟨rfl, .refl s⟩

theorem OnlyJournal.trans {s t u : State} (h : OnlyJournal s t) (g : OnlyJournal t u) : OnlyJournal s u := by
  refine ⟨?_, h.2.trans (by rw [h.1]) g.2⟩
  obtain ⟨h, -⟩ := h
  obtain ⟨g, -⟩ := g
  rw [g, h]

theorem OnlyJournal.resetLow {s t : State} (h : OnlyJournal s t) : t.resetLow = s.resetLow := by rw [h.1]
theorem OnlyJournal.part {s t : State} (h : OnlyJournal s t) : t.part = s.part := by rw [h.1]
theorem OnlyJournal.startKind {s t : State} (h : OnlyJournal s t) : t.startKind = s.startKind := by rw [h.1]
theorem OnlyJournal.imageFault {s t : State} (h : OnlyJournal s t) : t.imageFault = s.imageFault := by rw [h.1]
theorem OnlyJournal.imageLabel {s t : State} (h : OnlyJournal s t) : t.imageLabel = s.imageLabel := by rw [h.1]
theorem OnlyJournal.time {s t : State} (h : OnlyJournal s t) : t.time = s.time := by rw [h.1]
theorem OnlyJournal.memSelect {s t : State} (h : OnlyJournal s t) : t.memSelect = s.memSelect := by rw [h.1]
theorem OnlyJournal.lineRate {s t : State} (h : OnlyJournal s t) : t.lineRate = s.lineRate := by rw [h.1]
theorem OnlyJournal.lines {s t : State} (h : OnlyJournal s t) : t.lines = s.lines := by rw [h.1]
theorem OnlyJournal.points {s t : State} (h : OnlyJournal s t) : t.points = s.points := by rw [h.1]
theorem OnlyJournal.handOff {s t : State} (h : OnlyJournal s t) : t.handOff = s.handOff := by rw [h.1]
theorem OnlyJournal.sections {s t : State} (h : OnlyJournal s t) : t.sections = s.sections := by rw [h.1]
theorem OnlyJournal.slots {s t : State} (h : OnlyJournal s t) : t.slots = s.slots := by rw [h.1]
theorem OnlyJournal.txnCounter {s t : State} (h : OnlyJournal s t) : t.txnCounter = s.txnCounter := by rw [h.1]
theorem OnlyJournal.commitLimit {s t : State} (h : OnlyJournal s t) : t.commitLimit = s.commitLimit := by rw [h.1]
theorem OnlyJournal.confirmWindow {s t : State} (h : OnlyJournal s t) : t.confirmWindow = s.confirmWindow := by rw [h.1]
theorem OnlyJournal.ports {s t : State} (h : OnlyJournal s t) : t.ports = s.ports := by rw [h.1]
theorem OnlyJournal.attention {s t : State} (h : OnlyJournal s t) : t.attention = s.attention := by rw [h.1]
theorem OnlyJournal.arbMode {s t : State} (h : OnlyJournal s t) : t.arbMode = s.arbMode := by rw [h.1]
theorem OnlyJournal.arbOne {s t : State} (h : OnlyJournal s t) : t.arbOne = s.arbOne := by rw [h.1]
theorem OnlyJournal.arbTwo {s t : State} (h : OnlyJournal s t) : t.arbTwo = s.arbTwo := by rw [h.1]
theorem OnlyJournal.restartServed {s t : State} (h : OnlyJournal s t) : t.restartServed = s.restartServed := by rw [h.1]
theorem OnlyJournal.pending {s t : State} (h : OnlyJournal s t) : t.pending = s.pending := by rw [h.1]
theorem OnlyJournal.line {s t : State} (h : OnlyJournal s t) (i : LineId) : t.line i = s.line i := by rw [h.1]; rfl
theorem OnlyJournal.point {s t : State} (h : OnlyJournal s t) (i : PointId) : t.point i = s.point i := by rw [h.1]; rfl
theorem OnlyJournal.sec {s t : State} (h : OnlyJournal s t) (i : SectionId) : t.sec i = s.sec i := by rw [h.1]; rfl
theorem OnlyJournal.slot {s t : State} (h : OnlyJournal s t) (i : SlotId) : t.slot i = s.slot i := by rw [h.1]; rfl
theorem OnlyJournal.port {s t : State} (h : OnlyJournal s t) (i : PortId) : t.port i = s.port i := by rw [h.1]; rfl
theorem OnlyJournal.attn {s t : State} (h : OnlyJournal s t) (i : PortId) : t.attn i = s.attn i := by rw [h.1]; rfl

/-! ### OnlySections -/

/-- `t` is `s` but for section records and what an append changes. -/
def OnlySections (s t : State) : Prop := t = { s with sections := t.sections, journal := t.journal, watches := t.watches } ∧ Grown s t

theorem OnlySections.refl (s : State) : OnlySections s s := ⟨rfl, .refl s⟩

theorem OnlySections.trans {s t u : State} (h : OnlySections s t) (g : OnlySections t u) : OnlySections s u := by
  refine ⟨?_, h.2.trans (by rw [h.1]) g.2⟩
  obtain ⟨h, -⟩ := h
  obtain ⟨g, -⟩ := g
  rw [g, h]

theorem OnlySections.resetLow {s t : State} (h : OnlySections s t) : t.resetLow = s.resetLow := by rw [h.1]
theorem OnlySections.part {s t : State} (h : OnlySections s t) : t.part = s.part := by rw [h.1]
theorem OnlySections.startKind {s t : State} (h : OnlySections s t) : t.startKind = s.startKind := by rw [h.1]
theorem OnlySections.imageFault {s t : State} (h : OnlySections s t) : t.imageFault = s.imageFault := by rw [h.1]
theorem OnlySections.imageLabel {s t : State} (h : OnlySections s t) : t.imageLabel = s.imageLabel := by rw [h.1]
theorem OnlySections.time {s t : State} (h : OnlySections s t) : t.time = s.time := by rw [h.1]
theorem OnlySections.memSelect {s t : State} (h : OnlySections s t) : t.memSelect = s.memSelect := by rw [h.1]
theorem OnlySections.lineRate {s t : State} (h : OnlySections s t) : t.lineRate = s.lineRate := by rw [h.1]
theorem OnlySections.lines {s t : State} (h : OnlySections s t) : t.lines = s.lines := by rw [h.1]
theorem OnlySections.points {s t : State} (h : OnlySections s t) : t.points = s.points := by rw [h.1]
theorem OnlySections.handOff {s t : State} (h : OnlySections s t) : t.handOff = s.handOff := by rw [h.1]
theorem OnlySections.slots {s t : State} (h : OnlySections s t) : t.slots = s.slots := by rw [h.1]
theorem OnlySections.txnCounter {s t : State} (h : OnlySections s t) : t.txnCounter = s.txnCounter := by rw [h.1]
theorem OnlySections.commitLimit {s t : State} (h : OnlySections s t) : t.commitLimit = s.commitLimit := by rw [h.1]
theorem OnlySections.confirmWindow {s t : State} (h : OnlySections s t) : t.confirmWindow = s.confirmWindow := by rw [h.1]
theorem OnlySections.ports {s t : State} (h : OnlySections s t) : t.ports = s.ports := by rw [h.1]
theorem OnlySections.attention {s t : State} (h : OnlySections s t) : t.attention = s.attention := by rw [h.1]
theorem OnlySections.arbMode {s t : State} (h : OnlySections s t) : t.arbMode = s.arbMode := by rw [h.1]
theorem OnlySections.arbOne {s t : State} (h : OnlySections s t) : t.arbOne = s.arbOne := by rw [h.1]
theorem OnlySections.arbTwo {s t : State} (h : OnlySections s t) : t.arbTwo = s.arbTwo := by rw [h.1]
theorem OnlySections.restartServed {s t : State} (h : OnlySections s t) : t.restartServed = s.restartServed := by rw [h.1]
theorem OnlySections.pending {s t : State} (h : OnlySections s t) : t.pending = s.pending := by rw [h.1]
theorem OnlySections.line {s t : State} (h : OnlySections s t) (i : LineId) : t.line i = s.line i := by rw [h.1]; rfl
theorem OnlySections.point {s t : State} (h : OnlySections s t) (i : PointId) : t.point i = s.point i := by rw [h.1]; rfl
theorem OnlySections.slot {s t : State} (h : OnlySections s t) (i : SlotId) : t.slot i = s.slot i := by rw [h.1]; rfl
theorem OnlySections.port {s t : State} (h : OnlySections s t) (i : PortId) : t.port i = s.port i := by rw [h.1]; rfl
theorem OnlySections.attn {s t : State} (h : OnlySections s t) (i : PortId) : t.attn i = s.attn i := by rw [h.1]; rfl

/-! ### OnlyTable -/

/-- `t` is `s` but for section records, transaction slots and what an append changes. -/
def OnlyTable (s t : State) : Prop := t = { s with sections := t.sections, slots := t.slots, journal := t.journal, watches := t.watches } ∧ Grown s t

theorem OnlyTable.refl (s : State) : OnlyTable s s := ⟨rfl, .refl s⟩

theorem OnlyTable.trans {s t u : State} (h : OnlyTable s t) (g : OnlyTable t u) : OnlyTable s u := by
  refine ⟨?_, h.2.trans (by rw [h.1]) g.2⟩
  obtain ⟨h, -⟩ := h
  obtain ⟨g, -⟩ := g
  rw [g, h]

theorem OnlyTable.resetLow {s t : State} (h : OnlyTable s t) : t.resetLow = s.resetLow := by rw [h.1]
theorem OnlyTable.part {s t : State} (h : OnlyTable s t) : t.part = s.part := by rw [h.1]
theorem OnlyTable.startKind {s t : State} (h : OnlyTable s t) : t.startKind = s.startKind := by rw [h.1]
theorem OnlyTable.imageFault {s t : State} (h : OnlyTable s t) : t.imageFault = s.imageFault := by rw [h.1]
theorem OnlyTable.imageLabel {s t : State} (h : OnlyTable s t) : t.imageLabel = s.imageLabel := by rw [h.1]
theorem OnlyTable.time {s t : State} (h : OnlyTable s t) : t.time = s.time := by rw [h.1]
theorem OnlyTable.memSelect {s t : State} (h : OnlyTable s t) : t.memSelect = s.memSelect := by rw [h.1]
theorem OnlyTable.lineRate {s t : State} (h : OnlyTable s t) : t.lineRate = s.lineRate := by rw [h.1]
theorem OnlyTable.lines {s t : State} (h : OnlyTable s t) : t.lines = s.lines := by rw [h.1]
theorem OnlyTable.points {s t : State} (h : OnlyTable s t) : t.points = s.points := by rw [h.1]
theorem OnlyTable.handOff {s t : State} (h : OnlyTable s t) : t.handOff = s.handOff := by rw [h.1]
theorem OnlyTable.txnCounter {s t : State} (h : OnlyTable s t) : t.txnCounter = s.txnCounter := by rw [h.1]
theorem OnlyTable.commitLimit {s t : State} (h : OnlyTable s t) : t.commitLimit = s.commitLimit := by rw [h.1]
theorem OnlyTable.confirmWindow {s t : State} (h : OnlyTable s t) : t.confirmWindow = s.confirmWindow := by rw [h.1]
theorem OnlyTable.ports {s t : State} (h : OnlyTable s t) : t.ports = s.ports := by rw [h.1]
theorem OnlyTable.attention {s t : State} (h : OnlyTable s t) : t.attention = s.attention := by rw [h.1]
theorem OnlyTable.arbMode {s t : State} (h : OnlyTable s t) : t.arbMode = s.arbMode := by rw [h.1]
theorem OnlyTable.arbOne {s t : State} (h : OnlyTable s t) : t.arbOne = s.arbOne := by rw [h.1]
theorem OnlyTable.arbTwo {s t : State} (h : OnlyTable s t) : t.arbTwo = s.arbTwo := by rw [h.1]
theorem OnlyTable.restartServed {s t : State} (h : OnlyTable s t) : t.restartServed = s.restartServed := by rw [h.1]
theorem OnlyTable.pending {s t : State} (h : OnlyTable s t) : t.pending = s.pending := by rw [h.1]
theorem OnlyTable.line {s t : State} (h : OnlyTable s t) (i : LineId) : t.line i = s.line i := by rw [h.1]; rfl
theorem OnlyTable.point {s t : State} (h : OnlyTable s t) (i : PointId) : t.point i = s.point i := by rw [h.1]; rfl
theorem OnlyTable.port {s t : State} (h : OnlyTable s t) (i : PortId) : t.port i = s.port i := by rw [h.1]; rfl
theorem OnlyTable.attn {s t : State} (h : OnlyTable s t) (i : PortId) : t.attn i = s.attn i := by rw [h.1]; rfl

/-! ### OnlyPoints -/

/-- `t` is `s` but for point contexts and what an append changes. -/
def OnlyPoints (s t : State) : Prop := t = { s with points := t.points, journal := t.journal, watches := t.watches } ∧ Grown s t

theorem OnlyPoints.refl (s : State) : OnlyPoints s s := ⟨rfl, .refl s⟩

theorem OnlyPoints.trans {s t u : State} (h : OnlyPoints s t) (g : OnlyPoints t u) : OnlyPoints s u := by
  refine ⟨?_, h.2.trans (by rw [h.1]) g.2⟩
  obtain ⟨h, -⟩ := h
  obtain ⟨g, -⟩ := g
  rw [g, h]

theorem OnlyPoints.resetLow {s t : State} (h : OnlyPoints s t) : t.resetLow = s.resetLow := by rw [h.1]
theorem OnlyPoints.part {s t : State} (h : OnlyPoints s t) : t.part = s.part := by rw [h.1]
theorem OnlyPoints.startKind {s t : State} (h : OnlyPoints s t) : t.startKind = s.startKind := by rw [h.1]
theorem OnlyPoints.imageFault {s t : State} (h : OnlyPoints s t) : t.imageFault = s.imageFault := by rw [h.1]
theorem OnlyPoints.imageLabel {s t : State} (h : OnlyPoints s t) : t.imageLabel = s.imageLabel := by rw [h.1]
theorem OnlyPoints.time {s t : State} (h : OnlyPoints s t) : t.time = s.time := by rw [h.1]
theorem OnlyPoints.memSelect {s t : State} (h : OnlyPoints s t) : t.memSelect = s.memSelect := by rw [h.1]
theorem OnlyPoints.lineRate {s t : State} (h : OnlyPoints s t) : t.lineRate = s.lineRate := by rw [h.1]
theorem OnlyPoints.lines {s t : State} (h : OnlyPoints s t) : t.lines = s.lines := by rw [h.1]
theorem OnlyPoints.handOff {s t : State} (h : OnlyPoints s t) : t.handOff = s.handOff := by rw [h.1]
theorem OnlyPoints.sections {s t : State} (h : OnlyPoints s t) : t.sections = s.sections := by rw [h.1]
theorem OnlyPoints.slots {s t : State} (h : OnlyPoints s t) : t.slots = s.slots := by rw [h.1]
theorem OnlyPoints.txnCounter {s t : State} (h : OnlyPoints s t) : t.txnCounter = s.txnCounter := by rw [h.1]
theorem OnlyPoints.commitLimit {s t : State} (h : OnlyPoints s t) : t.commitLimit = s.commitLimit := by rw [h.1]
theorem OnlyPoints.confirmWindow {s t : State} (h : OnlyPoints s t) : t.confirmWindow = s.confirmWindow := by rw [h.1]
theorem OnlyPoints.ports {s t : State} (h : OnlyPoints s t) : t.ports = s.ports := by rw [h.1]
theorem OnlyPoints.attention {s t : State} (h : OnlyPoints s t) : t.attention = s.attention := by rw [h.1]
theorem OnlyPoints.arbMode {s t : State} (h : OnlyPoints s t) : t.arbMode = s.arbMode := by rw [h.1]
theorem OnlyPoints.arbOne {s t : State} (h : OnlyPoints s t) : t.arbOne = s.arbOne := by rw [h.1]
theorem OnlyPoints.arbTwo {s t : State} (h : OnlyPoints s t) : t.arbTwo = s.arbTwo := by rw [h.1]
theorem OnlyPoints.restartServed {s t : State} (h : OnlyPoints s t) : t.restartServed = s.restartServed := by rw [h.1]
theorem OnlyPoints.pending {s t : State} (h : OnlyPoints s t) : t.pending = s.pending := by rw [h.1]
theorem OnlyPoints.line {s t : State} (h : OnlyPoints s t) (i : LineId) : t.line i = s.line i := by rw [h.1]; rfl
theorem OnlyPoints.sec {s t : State} (h : OnlyPoints s t) (i : SectionId) : t.sec i = s.sec i := by rw [h.1]; rfl
theorem OnlyPoints.slot {s t : State} (h : OnlyPoints s t) (i : SlotId) : t.slot i = s.slot i := by rw [h.1]; rfl
theorem OnlyPoints.port {s t : State} (h : OnlyPoints s t) (i : PortId) : t.port i = s.port i := by rw [h.1]; rfl
theorem OnlyPoints.attn {s t : State} (h : OnlyPoints s t) (i : PortId) : t.attn i = s.attn i := by rw [h.1]; rfl

/-! ### OnlyCounting -/

/-- `t` is `s` but for the counting path behind the receivers. -/
def OnlyCounting (s t : State) : Prop := t = { s with points := t.points, handOff := t.handOff, sections := t.sections, slots := t.slots, journal := t.journal, watches := t.watches } ∧ Grown s t

theorem OnlyCounting.refl (s : State) : OnlyCounting s s := ⟨rfl, .refl s⟩

theorem OnlyCounting.trans {s t u : State} (h : OnlyCounting s t) (g : OnlyCounting t u) : OnlyCounting s u := by
  refine ⟨?_, h.2.trans (by rw [h.1]) g.2⟩
  obtain ⟨h, -⟩ := h
  obtain ⟨g, -⟩ := g
  rw [g, h]

theorem OnlyCounting.resetLow {s t : State} (h : OnlyCounting s t) : t.resetLow = s.resetLow := by rw [h.1]
theorem OnlyCounting.part {s t : State} (h : OnlyCounting s t) : t.part = s.part := by rw [h.1]
theorem OnlyCounting.startKind {s t : State} (h : OnlyCounting s t) : t.startKind = s.startKind := by rw [h.1]
theorem OnlyCounting.imageFault {s t : State} (h : OnlyCounting s t) : t.imageFault = s.imageFault := by rw [h.1]
theorem OnlyCounting.imageLabel {s t : State} (h : OnlyCounting s t) : t.imageLabel = s.imageLabel := by rw [h.1]
theorem OnlyCounting.time {s t : State} (h : OnlyCounting s t) : t.time = s.time := by rw [h.1]
theorem OnlyCounting.memSelect {s t : State} (h : OnlyCounting s t) : t.memSelect = s.memSelect := by rw [h.1]
theorem OnlyCounting.lineRate {s t : State} (h : OnlyCounting s t) : t.lineRate = s.lineRate := by rw [h.1]
theorem OnlyCounting.lines {s t : State} (h : OnlyCounting s t) : t.lines = s.lines := by rw [h.1]
theorem OnlyCounting.txnCounter {s t : State} (h : OnlyCounting s t) : t.txnCounter = s.txnCounter := by rw [h.1]
theorem OnlyCounting.commitLimit {s t : State} (h : OnlyCounting s t) : t.commitLimit = s.commitLimit := by rw [h.1]
theorem OnlyCounting.confirmWindow {s t : State} (h : OnlyCounting s t) : t.confirmWindow = s.confirmWindow := by rw [h.1]
theorem OnlyCounting.ports {s t : State} (h : OnlyCounting s t) : t.ports = s.ports := by rw [h.1]
theorem OnlyCounting.attention {s t : State} (h : OnlyCounting s t) : t.attention = s.attention := by rw [h.1]
theorem OnlyCounting.arbMode {s t : State} (h : OnlyCounting s t) : t.arbMode = s.arbMode := by rw [h.1]
theorem OnlyCounting.arbOne {s t : State} (h : OnlyCounting s t) : t.arbOne = s.arbOne := by rw [h.1]
theorem OnlyCounting.arbTwo {s t : State} (h : OnlyCounting s t) : t.arbTwo = s.arbTwo := by rw [h.1]
theorem OnlyCounting.restartServed {s t : State} (h : OnlyCounting s t) : t.restartServed = s.restartServed := by rw [h.1]
theorem OnlyCounting.pending {s t : State} (h : OnlyCounting s t) : t.pending = s.pending := by rw [h.1]
theorem OnlyCounting.line {s t : State} (h : OnlyCounting s t) (i : LineId) : t.line i = s.line i := by rw [h.1]; rfl
theorem OnlyCounting.port {s t : State} (h : OnlyCounting s t) (i : PortId) : t.port i = s.port i := by rw [h.1]; rfl
theorem OnlyCounting.attn {s t : State} (h : OnlyCounting s t) (i : PortId) : t.attn i = s.attn i := by rw [h.1]; rfl

/-! ### OnlyLines -/

/-- `t` is `s` but for trackside lines and what an append changes. -/
def OnlyLines (s t : State) : Prop := t = { s with lines := t.lines, journal := t.journal, watches := t.watches } ∧ Grown s t

theorem OnlyLines.refl (s : State) : OnlyLines s s := ⟨rfl, .refl s⟩

theorem OnlyLines.trans {s t u : State} (h : OnlyLines s t) (g : OnlyLines t u) : OnlyLines s u := by
  refine ⟨?_, h.2.trans (by rw [h.1]) g.2⟩
  obtain ⟨h, -⟩ := h
  obtain ⟨g, -⟩ := g
  rw [g, h]

theorem OnlyLines.resetLow {s t : State} (h : OnlyLines s t) : t.resetLow = s.resetLow := by rw [h.1]
theorem OnlyLines.part {s t : State} (h : OnlyLines s t) : t.part = s.part := by rw [h.1]
theorem OnlyLines.startKind {s t : State} (h : OnlyLines s t) : t.startKind = s.startKind := by rw [h.1]
theorem OnlyLines.imageFault {s t : State} (h : OnlyLines s t) : t.imageFault = s.imageFault := by rw [h.1]
theorem OnlyLines.imageLabel {s t : State} (h : OnlyLines s t) : t.imageLabel = s.imageLabel := by rw [h.1]
theorem OnlyLines.time {s t : State} (h : OnlyLines s t) : t.time = s.time := by rw [h.1]
theorem OnlyLines.memSelect {s t : State} (h : OnlyLines s t) : t.memSelect = s.memSelect := by rw [h.1]
theorem OnlyLines.lineRate {s t : State} (h : OnlyLines s t) : t.lineRate = s.lineRate := by rw [h.1]
theorem OnlyLines.points {s t : State} (h : OnlyLines s t) : t.points = s.points := by rw [h.1]
theorem OnlyLines.handOff {s t : State} (h : OnlyLines s t) : t.handOff = s.handOff := by rw [h.1]
theorem OnlyLines.sections {s t : State} (h : OnlyLines s t) : t.sections = s.sections := by rw [h.1]
theorem OnlyLines.slots {s t : State} (h : OnlyLines s t) : t.slots = s.slots := by rw [h.1]
theorem OnlyLines.txnCounter {s t : State} (h : OnlyLines s t) : t.txnCounter = s.txnCounter := by rw [h.1]
theorem OnlyLines.commitLimit {s t : State} (h : OnlyLines s t) : t.commitLimit = s.commitLimit := by rw [h.1]
theorem OnlyLines.confirmWindow {s t : State} (h : OnlyLines s t) : t.confirmWindow = s.confirmWindow := by rw [h.1]
theorem OnlyLines.ports {s t : State} (h : OnlyLines s t) : t.ports = s.ports := by rw [h.1]
theorem OnlyLines.attention {s t : State} (h : OnlyLines s t) : t.attention = s.attention := by rw [h.1]
theorem OnlyLines.arbMode {s t : State} (h : OnlyLines s t) : t.arbMode = s.arbMode := by rw [h.1]
theorem OnlyLines.arbOne {s t : State} (h : OnlyLines s t) : t.arbOne = s.arbOne := by rw [h.1]
theorem OnlyLines.arbTwo {s t : State} (h : OnlyLines s t) : t.arbTwo = s.arbTwo := by rw [h.1]
theorem OnlyLines.restartServed {s t : State} (h : OnlyLines s t) : t.restartServed = s.restartServed := by rw [h.1]
theorem OnlyLines.pending {s t : State} (h : OnlyLines s t) : t.pending = s.pending := by rw [h.1]
theorem OnlyLines.point {s t : State} (h : OnlyLines s t) (i : PointId) : t.point i = s.point i := by rw [h.1]; rfl
theorem OnlyLines.sec {s t : State} (h : OnlyLines s t) (i : SectionId) : t.sec i = s.sec i := by rw [h.1]; rfl
theorem OnlyLines.slot {s t : State} (h : OnlyLines s t) (i : SlotId) : t.slot i = s.slot i := by rw [h.1]; rfl
theorem OnlyLines.port {s t : State} (h : OnlyLines s t) (i : PortId) : t.port i = s.port i := by rw [h.1]; rfl
theorem OnlyLines.attn {s t : State} (h : OnlyLines s t) (i : PortId) : t.attn i = s.attn i := by rw [h.1]; rfl

/-! ### OnlyPorts -/

/-- `t` is `s` but for port links and what an append changes. -/
def OnlyPorts (s t : State) : Prop := t = { s with ports := t.ports, journal := t.journal, watches := t.watches } ∧ Grown s t

theorem OnlyPorts.refl (s : State) : OnlyPorts s s := ⟨rfl, .refl s⟩

theorem OnlyPorts.trans {s t u : State} (h : OnlyPorts s t) (g : OnlyPorts t u) : OnlyPorts s u := by
  refine ⟨?_, h.2.trans (by rw [h.1]) g.2⟩
  obtain ⟨h, -⟩ := h
  obtain ⟨g, -⟩ := g
  rw [g, h]

theorem OnlyPorts.resetLow {s t : State} (h : OnlyPorts s t) : t.resetLow = s.resetLow := by rw [h.1]
theorem OnlyPorts.part {s t : State} (h : OnlyPorts s t) : t.part = s.part := by rw [h.1]
theorem OnlyPorts.startKind {s t : State} (h : OnlyPorts s t) : t.startKind = s.startKind := by rw [h.1]
theorem OnlyPorts.imageFault {s t : State} (h : OnlyPorts s t) : t.imageFault = s.imageFault := by rw [h.1]
theorem OnlyPorts.imageLabel {s t : State} (h : OnlyPorts s t) : t.imageLabel = s.imageLabel := by rw [h.1]
theorem OnlyPorts.time {s t : State} (h : OnlyPorts s t) : t.time = s.time := by rw [h.1]
theorem OnlyPorts.memSelect {s t : State} (h : OnlyPorts s t) : t.memSelect = s.memSelect := by rw [h.1]
theorem OnlyPorts.lineRate {s t : State} (h : OnlyPorts s t) : t.lineRate = s.lineRate := by rw [h.1]
theorem OnlyPorts.lines {s t : State} (h : OnlyPorts s t) : t.lines = s.lines := by rw [h.1]
theorem OnlyPorts.points {s t : State} (h : OnlyPorts s t) : t.points = s.points := by rw [h.1]
theorem OnlyPorts.handOff {s t : State} (h : OnlyPorts s t) : t.handOff = s.handOff := by rw [h.1]
theorem OnlyPorts.sections {s t : State} (h : OnlyPorts s t) : t.sections = s.sections := by rw [h.1]
theorem OnlyPorts.slots {s t : State} (h : OnlyPorts s t) : t.slots = s.slots := by rw [h.1]
theorem OnlyPorts.txnCounter {s t : State} (h : OnlyPorts s t) : t.txnCounter = s.txnCounter := by rw [h.1]
theorem OnlyPorts.commitLimit {s t : State} (h : OnlyPorts s t) : t.commitLimit = s.commitLimit := by rw [h.1]
theorem OnlyPorts.confirmWindow {s t : State} (h : OnlyPorts s t) : t.confirmWindow = s.confirmWindow := by rw [h.1]
theorem OnlyPorts.attention {s t : State} (h : OnlyPorts s t) : t.attention = s.attention := by rw [h.1]
theorem OnlyPorts.arbMode {s t : State} (h : OnlyPorts s t) : t.arbMode = s.arbMode := by rw [h.1]
theorem OnlyPorts.arbOne {s t : State} (h : OnlyPorts s t) : t.arbOne = s.arbOne := by rw [h.1]
theorem OnlyPorts.arbTwo {s t : State} (h : OnlyPorts s t) : t.arbTwo = s.arbTwo := by rw [h.1]
theorem OnlyPorts.restartServed {s t : State} (h : OnlyPorts s t) : t.restartServed = s.restartServed := by rw [h.1]
theorem OnlyPorts.pending {s t : State} (h : OnlyPorts s t) : t.pending = s.pending := by rw [h.1]
theorem OnlyPorts.line {s t : State} (h : OnlyPorts s t) (i : LineId) : t.line i = s.line i := by rw [h.1]; rfl
theorem OnlyPorts.point {s t : State} (h : OnlyPorts s t) (i : PointId) : t.point i = s.point i := by rw [h.1]; rfl
theorem OnlyPorts.sec {s t : State} (h : OnlyPorts s t) (i : SectionId) : t.sec i = s.sec i := by rw [h.1]; rfl
theorem OnlyPorts.slot {s t : State} (h : OnlyPorts s t) (i : SlotId) : t.slot i = s.slot i := by rw [h.1]; rfl
theorem OnlyPorts.attn {s t : State} (h : OnlyPorts s t) (i : PortId) : t.attn i = s.attn i := by rw [h.1]; rfl

theorem OnlyJournal.toSections {s t : State} (h : OnlyJournal s t) : OnlySections s t := by
  refine ⟨?_, h.2⟩
  obtain ⟨h, -⟩ := h
  rw [h]
theorem OnlyJournal.toTable {s t : State} (h : OnlyJournal s t) : OnlyTable s t := by
  refine ⟨?_, h.2⟩
  obtain ⟨h, -⟩ := h
  rw [h]
theorem OnlyJournal.toPoints {s t : State} (h : OnlyJournal s t) : OnlyPoints s t := by
  refine ⟨?_, h.2⟩
  obtain ⟨h, -⟩ := h
  rw [h]
theorem OnlyJournal.toCounting {s t : State} (h : OnlyJournal s t) : OnlyCounting s t := by
  refine ⟨?_, h.2⟩
  obtain ⟨h, -⟩ := h
  rw [h]
theorem OnlyJournal.toLines {s t : State} (h : OnlyJournal s t) : OnlyLines s t := by
  refine ⟨?_, h.2⟩
  obtain ⟨h, -⟩ := h
  rw [h]
theorem OnlyJournal.toPorts {s t : State} (h : OnlyJournal s t) : OnlyPorts s t := by
  refine ⟨?_, h.2⟩
  obtain ⟨h, -⟩ := h
  rw [h]
theorem OnlySections.toTable {s t : State} (h : OnlySections s t) : OnlyTable s t := by
  refine ⟨?_, h.2⟩
  obtain ⟨h, -⟩ := h
  rw [h]
theorem OnlySections.toCounting {s t : State} (h : OnlySections s t) : OnlyCounting s t := by
  refine ⟨?_, h.2⟩
  obtain ⟨h, -⟩ := h
  rw [h]
theorem OnlyTable.toCounting {s t : State} (h : OnlyTable s t) : OnlyCounting s t := by
  refine ⟨?_, h.2⟩
  obtain ⟨h, -⟩ := h
  rw [h]
theorem OnlyPoints.toCounting {s t : State} (h : OnlyPoints s t) : OnlyCounting s t := by
  refine ⟨?_, h.2⟩
  obtain ⟨h, -⟩ := h
  rw [h]

end Sys2Proof.Machine
end

