-- ==== Sys2Proof/Laws/Ops.lean ====
section
/-! SUPPORT. One lemma for each shared operation that says what it can change, and the spec lemmas of the operations
that the commands share: the command's form, the append, the section record, the transaction table, the port link. -/

namespace Sys2Proof.Machine

/-! ### The form of a command -/

theorem event_true (eff : State → State) (s : State) : event true eff s = .next (settle (eff s)) := rfl

theorem event_false (eff : State → State) (s : State) : event false eff s = .next s := rfl

/-- A command that answers `t` either took place or left the state alone. -/
theorem event_next {can : Bool} {eff : State → State} {s t : State} (h : event can eff s = .next t) :
    (can = true ∧ t = settle (eff s)) ∨ (can = false ∧ t = s) := by
  cases can
  · exact .inr ⟨rfl, (Host.Outcome.next.inj h).symm⟩
  · exact .inl ⟨rfl, (Host.Outcome.next.inj h).symm⟩

theorem inService_iff (s : State) : s.inService = true ↔ s.resetLow = false ∧ s.part = .running := by
  simp [State.inService, State.live]

/-! ### The journal -/

theorem append_only (b : RecordBody) (s : State) : OnlyJournal s (append b s) := ⟨rfl, .append b s⟩

@[simp] theorem push_writeSeq (j : Journal) (time : Word) (b : RecordBody) :
    (j.push time b).writeSeq = j.writeSeq + 1 := rfl

theorem push_at_same (j : Journal) (time : Word) (b : RecordBody) :
    (j.push time b).at j.writeSeq = some ⟨j.writeSeq, time, b⟩ := by
  simp [Journal.at, Journal.push]

theorem push_at_ne (j : Journal) (time : Word) (b : RecordBody) {q : Word} (h : placeOf q ≠ placeOf j.writeSeq) :
    (j.push time b).at q = j.at q := by
  simp [Journal.at, Journal.push, tget_tset_ne _ _ h]

/-- An append leaves the masks, the trigger levels, the dwell times and three latches of every port alone. -/
theorem watchAppend_eq (w : Word) (isState : Bool) (x : Watch) :
    watchAppend w isState x =
      { x with
        cursor := if unread w x = 512 then w + 1 - 256 else x.cursor
        slipCount := if unread w x = 512 then min 65535 (x.slipCount + 257) else x.slipCount
        dwell := if unread w x = 0 then some x.dwellTime else x.dwell
        latchSection := isState || x.latchSection } := by
  unfold watchAppend
  cases isState <;> by_cases h : unread w x = 512 <;> by_cases h0 : unread w x = 0 <;>
    simp_all [slip, restartDwell, ringSize, satAdd, top16, slipSkipped, slipUnread]

/-! ### Attention -/

/-- The causes pending and in the mask, bit by bit (R168, R172, R177). -/
theorem pendingCauses_and_ne_zero (w : Word) (x : Watch) :
    (pendingCauses w x &&& x.mask) ≠ 0 ↔
      (x.latchLink = true ∧ x.mask.getLsbD 0 = true) ∨
        (x.latchSection = true ∧ x.mask.getLsbD 1 = true) ∨
        (x.latchReset = true ∧ x.mask.getLsbD 2 = true) ∨
        (x.trigger ≤ (w - x.cursor).toNat ∧ x.mask.getLsbD 3 = true) ∨
        (x.latchDwell = true ∧ x.mask.getLsbD 4 = true) := by
  have bits : ∀ (l0 l1 l2 l3 l4 : Bool) (m : BitVec 5),
      (BitVec.ofNat 5 (bitAt 0 l0 + bitAt 1 l1 + bitAt 2 l2 + bitAt 3 l3 + bitAt 4 l4) &&& m) ≠ 0 ↔
        (l0 = true ∧ m.getLsbD 0 = true) ∨ (l1 = true ∧ m.getLsbD 1 = true) ∨ (l2 = true ∧ m.getLsbD 2 = true) ∨
          (l3 = true ∧ m.getLsbD 3 = true) ∨ (l4 = true ∧ m.getLsbD 4 = true) := by
    intro l0 l1 l2 l3 l4
    cases l0 <;> cases l1 <;> cases l2 <;> cases l3 <;> cases l4 <;> decide
  rw [pendingCauses, bits, levelPresent, decide_eq_true_iff, unread]

/-- When an attention line is asserted (R11, R177). -/
theorem attentionOf_eq_true (s : State) (p : PortId) :
    attentionOf s p = true ↔
      s.resetLow = false ∧ ((s.port p).isolated = true ∨
        (pendingCauses s.journal.writeSeq (s.watch p) &&& (s.watch p).mask) ≠ 0) := by
  simp [attentionOf]

/-! ### Section records -/

theorem setSec_only (n : SectionId) (x : Section) (s : State) : OnlySections s (s.setSec n x) :=
  ⟨rfl, .refl s⟩

theorem putSection_only (n : SectionId) (old : SectionMode) (x : Section) (s : State) :
    OnlySections s (putSection n old x s) := by
  unfold putSection
  dsimp only
  split
  · exact setSec_only n x s
  · exact (setSec_only n x s).trans (append_only _ _).toSections

@[simp] theorem putSection_sec (n : SectionId) (old : SectionMode) (x : Section) (s : State) :
    (putSection n old x s).sec n = x := by
  unfold putSection
  dsimp only
  split <;> simp

theorem putSection_sec_ne (n : SectionId) (old : SectionMode) (x : Section) (s : State) {m : SectionId}
    (h : m ≠ n) : (putSection n old x s).sec m = s.sec m := by
  unfold putSection
  dsimp only
  split <;> simp [State.setSec_ne _ _ _ _ h]

theorem disturb_only (c : Cause) (n : SectionId) (s : State) : OnlySections s (disturb c n s) :=
  putSection_only _ _ _ _

theorem setOpenTxn_only (n : SectionId) (number : Option Byte) (s : State) : OnlySections s (setOpenTxn n number s) :=
  setSec_only _ _ _

theorem foldl_only {R : State → State → Prop} (refl : ∀ s, R s s) (trans : ∀ {s t u}, R s t → R t u → R s u)
    {α : Type} (f : State → α → State) (hf : ∀ s a, R s (f s a)) (as : List α) (s : State) :
    R s (as.foldl f s) := by
  induction as generalizing s with
  | nil => exact refl s
  | cons a as ih => exact trans (hf s a) (ih (f s a))

theorem applySection_only (n : SectionId) (ins outs : Nat) (s : State) : OnlySections s (applySection n ins outs s) := by
  unfold applySection
  dsimp only
  split
  · exact .refl s
  · exact putSection_only _ _ _ _

theorem applySection_sec_ne (n : SectionId) (ins outs : Nat) (s : State) {m : SectionId} (h : m ≠ n) :
    (applySection n ins outs s).sec m = s.sec m := by
  unfold applySection
  dsimp only
  split
  · rfl
  · exact putSection_sec_ne _ _ _ _ h

/-! ### The Reset Transaction Table -/

/-- What `findTxn` finds is in its slot and meets the condition; where it finds nothing, no open transaction does. -/
theorem findTxn_some {q : Txn → Bool} {s : State} {k : SlotId} {t : Txn} (h : findTxn q s = some (k, t)) :
    s.slot k = some t ∧ q t = true := by
  unfold findTxn at h
  obtain ⟨j, -, hj⟩ := List.exists_of_findSome?_eq_some h
  cases hs : s.slot j with
  | none => simp [hs] at hj
  | some u =>
    rw [hs] at hj
    by_cases hq : q u = true
    · simp only [hq, if_true, Option.some.injEq, Prod.mk.injEq] at hj
      obtain ⟨rfl, rfl⟩ := hj
      exact ⟨hs, hq⟩
    · simp [hq] at hj

theorem mem_allSlots : ∀ k : SlotId, k ∈ allSlots := by decide

theorem findTxn_none {q : Txn → Bool} {s : State} :
    findTxn q s = none ↔ ∀ k t, s.slot k = some t → q t = false := by
  unfold findTxn
  rw [List.findSome?_eq_none_iff]
  constructor
  · intro h k t hk
    have := h k (mem_allSlots k)
    simp only [hk] at this
    by_cases hq : q t = true
    · simp [hq] at this
    · simpa using hq
  · intro h k _
    cases hk : s.slot k with
    | none => rfl
    | some t => simp [h k t hk]

/-- Where one open transaction alone can meet the condition, it is the one found. -/
theorem findTxn_unique {q : Txn → Bool} {s : State} {k : SlotId} {t : Txn} (hk : s.slot k = some t)
    (hq : q t = true) (one : ∀ j u, s.slot j = some u → q u = true → j = k) : findTxn q s = some (k, t) := by
  cases h : findTxn q s with
  | none => simp [findTxn_none.mp h k t hk] at hq
  | some r =>
    obtain ⟨j, u⟩ := r
    obtain ⟨hj, hu⟩ := findTxn_some h
    obtain rfl := one j u hj hu
    rw [hk] at hj
    obtain rfl := Option.some.inj hj
    rfl

theorem setWatch_only (p : PortId) (x : Watch) (s : State) : OnlyJournal s (s.setWatch p x) := ⟨rfl, .refl s⟩

theorem raiseReset_only (proposer : PortId) (s : State) : OnlyJournal s (raiseReset proposer s) := by
  unfold raiseReset
  dsimp only
  have h : OnlyJournal s (setResetLatch .ixb (setResetLatch .ixa s)) :=
    (setWatch_only _ _ _).trans (setWatch_only _ _ _)
  split
  · exact h.trans (setWatch_only _ _ _)
  · exact h

theorem port_beq (p q : PortId) : (p == q) = decide (p = q) := by cases p <;> cases q <;> rfl

/-- The RESET latch of R113: on IXA and IXB, and on MNT for its own transactions. -/
theorem raiseReset_watch (proposer : PortId) (s : State) (p : PortId) :
    (raiseReset proposer s).watch p =
      { s.watch p with
        latchReset := (s.watch p).latchReset || p == .ixa || p == .ixb || (p == .mnt && proposer == .mnt) } := by
  unfold raiseReset setResetLatch
  dsimp only
  cases p <;> cases proposer <;> simp [State.setWatch_ne, port_beq]

@[simp] theorem raiseReset_journal (proposer : PortId) (s : State) : (raiseReset proposer s).journal = s.journal := by
  unfold raiseReset setResetLatch
  dsimp only
  split <;> simp

theorem setSlot_only (k : SlotId) (x : Option Txn) (s : State) : OnlyTable s (s.setSlot k x) := ⟨rfl, .refl s⟩

theorem endTxn_only (e : ResetEvent) (k : SlotId) (t : Txn) (s : State) : OnlyTable s (endTxn e k t s) :=
  (append_only _ _).toTable.trans <| (setSlot_only _ _ _).trans <| (setOpenTxn_only _ _ _).toTable.trans
    (raiseReset_only _ _).toTable

/-- An ending of a transaction that does not complete it (R111, R114). -/
theorem endTxn_spec (e : ResetEvent) (k : SlotId) (t : Txn) (s : State) :
    (endTxn e k t s).journal = s.journal.push s.time (resetRecord t e) ∧
      (endTxn e k t s).slot k = none ∧ (∀ j, j ≠ k → (endTxn e k t s).slot j = s.slot j) ∧
      (endTxn e k t s).sec t.sec = { s.sec t.sec with openTxn := none } ∧
      (∀ n, n ≠ t.sec → (endTxn e k t s).sec n = s.sec n) ∧
      ∀ p, (endTxn e k t s).watch p =
        { watchAppend s.journal.writeSeq false (s.watch p) with
          latchReset := (s.watch p).latchReset || p == .ixa || p == .ixb || (p == .mnt && t.proposer == .mnt) } := by
  unfold endTxn
  refine ⟨?_, ?_, ?_, ?_, ?_, ?_⟩
  · simp [setOpenTxn]
  · rw [(raiseReset_only _ _).slot]
    simp [setOpenTxn]
  · intro j hj
    rw [(raiseReset_only _ _).slot]
    simp [setOpenTxn, State.setSlot_ne _ _ _ _ hj]
  · rw [(raiseReset_only _ _).sec]
    simp [setOpenTxn]
  · intro n hn
    rw [(raiseReset_only _ _).sec]
    simp [setOpenTxn, State.setSec_ne _ _ _ _ hn]
  · intro p
    rw [raiseReset_watch]
    simp [setOpenTxn, resetRecord, RecordBody.isState, watchAppend_eq]

theorem cancelFor_only (r : CancelReason) (q : Txn → Bool) (n : SectionId) (s : State) :
    OnlyTable s (cancelFor r q n s) := by
  unfold cancelFor
  split
  · exact endTxn_only _ _ _ _
  · exact .refl s

/-- A cancellation ends the open transaction for the section that meets the condition, where it is the only one. -/
theorem cancelFor_of_open {r : CancelReason} {q : Txn → Bool} {s : State} {k : SlotId} {t : Txn}
    (hk : s.slot k = some t) (hq : q t = true) (one : ∀ j u, s.slot j = some u → u.sec = t.sec → j = k) :
    cancelFor r q t.sec s = endTxn (.cancelled r) k t s := by
  unfold cancelFor
  rw [findTxn_unique hk (by simp [hq])]
  intro j u hj hu
  simp only [Bool.and_eq_true, beq_iff_eq] at hu
  exact one j u hj hu.1

/-- A cancellation changes nothing where no open transaction for the section meets the condition. -/
theorem cancelFor_of_none {r : CancelReason} {q : Txn → Bool} {n : SectionId} {s : State}
    (h : ∀ k t, s.slot k = some t → t.sec = n → q t = false) : cancelFor r q n s = s := by
  unfold cancelFor
  rw [findTxn_none.mpr]
  intro k t hk
  by_cases hn : t.sec = n
  · simp [h k t hk hn]
  · simp [hn]

/-- A cancellation touches a section record in its open transaction number alone. -/
theorem cancelFor_sec (r : CancelReason) (q : Txn → Bool) (n : SectionId) (s : State) (m : SectionId) :
    (cancelFor r q n s).sec m = s.sec m ∨
      (m = n ∧ (cancelFor r q n s).sec m = { s.sec m with openTxn := none }) := by
  unfold cancelFor
  split
  · rename_i k t h
    have hn : t.sec = n := by
      have := (findTxn_some h).2
      simp only [Bool.and_eq_true, beq_iff_eq] at this
      exact this.1
    by_cases hm : m = n
    · subst hm
      right
      refine ⟨rfl, ?_⟩
      have := (endTxn_spec (.cancelled r) k t s).2.2.2.1
      rwa [hn] at this
    · left
      exact (endTxn_spec (.cancelled r) k t s).2.2.2.2.1 m (by rw [hn]; exact hm)
  · exact .inl rfl

theorem completeTxn_only (k : SlotId) (t : Txn) (s : State) : OnlyTable s (completeTxn k t s) := by
  unfold completeTxn
  dsimp only
  exact (append_only _ _).toTable.trans <| (putSection_only _ _ _ _).toTable.trans <|
    (setSlot_only _ _ _).trans (raiseReset_only _ _).toTable

theorem addConfirmation_only (p : PortId) (k : SlotId) (t : Txn) (s : State) : OnlyTable s (addConfirmation p k t s) :=
  (setSlot_only _ _ _).trans (append_only _ _).toTable

theorem reportDeparture_only (secs : List SectionId) (s : State) : OnlyTable s (reportDeparture secs s) :=
  foldl_only (R := OnlyTable) .refl .trans _ (fun _ _ => cancelFor_only _ _ _ _) _ _

theorem reportActivity_only (secs : List SectionId) (s : State) : OnlyTable s (reportActivity secs s) :=
  foldl_only (R := OnlyTable) .refl .trans _ (fun _ _ => cancelFor_only _ _ _ _) _ _

/-! ### Points -/

theorem setPoint_only (d : PointId) (x : Point) (s : State) : OnlyPoints s (s.setPoint d x) := ⟨rfl, .refl s⟩

theorem changePoint_only (d : PointId) (old : PointName) (x : Point) (cause : Option Cause) (s : State) :
    OnlyPoints s (changePoint d old x cause s) :=
  (setPoint_only _ _ _).trans (append_only _ _).toPoints

theorem warningRecord_only (d : PointId) (before after : Bool) (s : State) :
    OnlyJournal s (warningRecord d before after s) := by
  unfold warningRecord
  split
  · exact .refl s
  · exact append_only _ _

theorem makeHandOff_only (d : PointId) (x : Point) (t : Telegram) (dAB dBA : Byte) (gap : Nat) (s : State) :
    OnlyCounting s (makeHandOff d x t dAB dBA gap s) := ⟨rfl, .refl s⟩

theorem depart_only (d : PointId) (c : PointCfg) (x : Point) (cause : Cause) (t : Option Telegram) (s : State) :
    OnlyCounting s (depart d c x cause t s) := by
  unfold depart
  dsimp only
  exact (setPoint_only _ _ _).toCounting.trans <| (append_only _ _).toCounting.trans <|
    (foldl_only (R := OnlySections) .refl .trans _ (fun _ _ => disturb_only _ _ _) _ _).toCounting.trans
      (reportDeparture_only _ _).toCounting

theorem acceptTelegram_only (d : PointId) (x : Point) (last t : Telegram) (dAB dBA : Byte) (gap : Nat) (s : State) :
    OnlyCounting s (acceptTelegram d x last t dAB dBA gap s) :=
  (setPoint_only _ _ _).toCounting.trans <| (warningRecord_only _ _ _ _).toCounting.trans
    (makeHandOff_only _ _ _ _ _ _ _)

theorem enterSync_only (d : PointId) (x : Point) (candidate t : Telegram) (s : State) :
    OnlyCounting s (enterSync d x candidate t s) :=
  (changePoint_only _ _ _ _ _).toCounting.trans <| (warningRecord_only _ _ _ _).toCounting.trans
    (makeHandOff_only _ _ _ _ _ _ _)

theorem judgeCounts_only (d : PointId) (c : PointCfg) (x : Point) (last : Telegram) (bAB bBA : Byte) (t : Telegram)
    (gap : Nat) (s : State) : OnlyCounting s (judgeCounts d c x last bAB bBA t gap s) := by
  unfold judgeCounts
  split
  · exact acceptTelegram_only _ _ _ _ _ _ _ _
  · exact depart_only _ _ _ _ _ _

theorem inSyncTelegram_only (d : PointId) (c : PointCfg) (x : Point) (last : Telegram) (older : Option Telegram)
    (bAB bBA : Byte) (e : BitVec 3) (t : Telegram) (s : State) :
    OnlyCounting s (inSyncTelegram d c x last older bAB bBA e t s) := by
  unfold inSyncTelegram
  repeat' split
  all_goals
    first
      | exact (setPoint_only _ _ _).toCounting
      | exact depart_only _ _ _ _ _ _
      | exact judgeCounts_only _ _ _ _ _ _ _ _ _

theorem supervise_only (l : LineId) (del : Delivery) (s : State) : OnlyCounting s (supervise l del s) := by
  unfold supervise huntTelegram pendingTelegram faultedTelegram toFaulted toPending
  dsimp only
  repeat' split
  all_goals
    first
      | exact .refl s
      | exact (changePoint_only _ _ _ _ _).toCounting
      | exact (setPoint_only _ _ _).toCounting
      | exact enterSync_only _ _ _ _ _
      | exact inSyncTelegram_only _ _ _ _ _ _ _ _ _ _

theorem pointSilent_only (d : PointId) (s : State) : OnlyCounting s (pointSilent d s) := by
  unfold pointSilent
  dsimp only
  repeat' split
  all_goals
    first
      | exact .refl s
      | exact depart_only _ _ _ _ _ _
      | exact (changePoint_only _ _ _ _ _).toCounting

/-! ### The hand-off -/

theorem recordAxles_only (h : HandOff) (s : State) : OnlyJournal s (recordAxles h s) := by
  unfold recordAxles
  split
  · exact append_only _ _
  · exact .refl s

theorem applySideA_only (h : HandOff) (s : State) : OnlySections s (applySideA h s) := by
  unfold applySideA
  split
  · exact applySection_only _ _ _ _
  · exact .refl s

theorem applySideB_only (h : HandOff) (s : State) : OnlySections s (applySideB h s) := by
  unfold applySideB
  split
  · exact applySection_only _ _ _ _
  · exact .refl s

theorem activityStep_only (h : HandOff) (s : State) : OnlyTable s (activityStep h s) := by
  unfold activityStep
  split
  · exact reportActivity_only _ _
  · exact .refl s

theorem setStage_only (h : HandOff) (stage : Option HandOffStage) (s : State) :
    OnlyCounting s (setStage h stage s) := ⟨rfl, .refl s⟩

theorem handOffStep_only (h : HandOff) (s : State) : OnlyCounting s (handOffStep h s) := by
  unfold handOffStep
  split
  · exact (recordAxles_only h s).toCounting.trans (setStage_only _ _ _)
  · exact (applySideA_only h s).toCounting.trans (setStage_only _ _ _)
  · exact (applySideB_only h s).toCounting.trans (setStage_only _ _ _)
  · exact (activityStep_only h s).toCounting.trans (setStage_only _ _ _)

theorem handOffOnce_only (s : State) : OnlyCounting s (handOffOnce s) := by
  unfold handOffOnce
  split
  · exact handOffStep_only _ _
  · exact .refl s

theorem handOffAll_only (s : State) : OnlyCounting s (handOffAll s) :=
  (handOffOnce_only _).trans <| (handOffOnce_only _).trans <| (handOffOnce_only _).trans (handOffOnce_only _)

/-! ### Lines -/

theorem setLine_only (l : LineId) (x : Line) (s : State) : OnlyLines s (s.setLine l x) := ⟨rfl, .refl s⟩

theorem lineHeard_only (l : LineId) (s : State) : OnlyLines s (lineHeard l s) := by
  unfold lineHeard
  dsimp only
  split
  · exact setLine_only _ _ _
  · exact (setLine_only _ _ _).trans (append_only _ _).toLines

theorem routeTelegram_only (l : LineId) (d : Delivery) (s : State) : OnlyLines s (routeTelegram l d s) := by
  unfold routeTelegram
  dsimp only
  split <;> exact setLine_only _ _ _

theorem checkTelegram_only (l : LineId) (bytes : List Byte) (s : State) : OnlyLines s (checkTelegram l bytes s) := by
  unfold checkTelegram
  split
  · exact (setLine_only _ _ _).trans <| (lineHeard_only _ _).trans (routeTelegram_only _ _ _)
  · exact setLine_only _ _ _

theorem lineCharacter_only (l : LineId) (b : Byte) (s : State) : OnlyLines s (lineCharacter l b s) := by
  unfold lineCharacter
  dsimp only
  repeat' split
  all_goals
    first
      | exact .refl s
      | exact setLine_only _ _ _
      | exact (setLine_only _ _ _).trans (checkTelegram_only _ _ _)

/-! ### Port links -/

theorem setPort_only (p : PortId) (x : Port) (s : State) : OnlyPorts s (s.setPort p x) := ⟨rfl, .refl s⟩

theorem isolate_only (p : PortId) (s : State) : OnlyPorts s (isolate p s) :=
  (setPort_only _ _ _).trans (append_only _ _).toPorts

/-- A link error at a port leaves every other port's link alone. -/
theorem linkError_only (p : PortId) (s : State) : OnlyPorts s (linkError p s) := by
  unfold linkError setLinkLatch
  dsimp only
  split
  · exact (setPort_only _ _ _).trans <| (setWatch_only _ _ _).toPorts.trans (isolate_only _ _)
  · exact (setPort_only _ _ _).trans (setWatch_only _ _ _).toPorts

theorem discardFrame_only (p : PortId) (s : State) : OnlyPorts s (discardFrame p s) :=
  (setPort_only _ _ _).trans (linkError_only _ _)

theorem placeAnswer_only (p : PortId) (a : Answer) (s : State) : OnlyPorts s (placeAnswer p a s) := setPort_only _ _ _

theorem answerAtOnce_only (p : PortId) (tag : Byte) (result : ResultCode) (s : State) :
    OnlyPorts s (answerAtOnce p tag result s) :=
  (setPort_only _ _ _ : OnlyPorts s (lowerError p s)).trans (placeAnswer_only _ _ _)

theorem rejoinPort_only (p : PortId) (tag : Byte) (s : State) : OnlyPorts s (rejoinPort p tag s) := by
  unfold rejoinPort immediate
  split
  · exact (setPort_only _ _ _).trans <| (placeAnswer_only _ _ _).trans (append_only _ _).toPorts
  · exact answerAtOnce_only _ _ _ _

theorem needsRoom_only (p : PortId) (effect : State → State) (s : State) (h : OnlyPorts s (effect s)) :
    OnlyPorts s (needsRoom p effect s) := by
  unfold needsRoom
  split
  · exact h
  · exact linkError_only _ _

theorem handleFrame_only (p : PortId) (tag : Byte) (r : Option Request) (s : State) :
    OnlyPorts s (handleFrame p tag r s) := by
  unfold handleFrame handleRequest
  repeat' split
  all_goals
    first
      | exact .refl s
      | exact needsRoom_only _ _ _ (rejoinPort_only _ _ _)
      | exact needsRoom_only _ _ _ (answerAtOnce_only _ _ _ _)
      | exact needsRoom_only _ _ _ ((placeAnswer_only _ _ _).trans (linkError_only _ _))
      | exact (setPort_only _ _ _ : OnlyPorts s (lowerError p s)).trans (setPort_only _ _ _)

theorem completeFrame_only (p : PortId) (held : List Byte) (s : State) : OnlyPorts s (completeFrame p held s) := by
  unfold completeFrame
  split
  · exact handleFrame_only _ _ _ _
  · exact discardFrame_only _ _

theorem portCharacter_only (p : PortId) (b : Byte) (s : State) : OnlyPorts s (portCharacter p b s) := by
  unfold portCharacter collected
  dsimp only
  repeat' split
  all_goals
    first
      | exact .refl s
      | exact setPort_only _ _ _
      | exact (setPort_only _ _ _).trans (discardFrame_only _ _)
      | exact (setPort_only _ _ _).trans ((setPort_only _ _ _).trans (completeFrame_only _ _ _))

theorem linkReset_only (p : PortId) (s : State) : OnlyPorts s (linkReset p s) :=
  (setPort_only _ _ _).trans (append_only _ _).toPorts

theorem sendHead_only (p : PortId) (s : State) : OnlyPorts s (sendHead p s) := setPort_only _ _ _

end Sys2Proof.Machine
end

