-- ==== Sys2Proof/WellFormed.lean ====
section
/-! DEFINITION. Which commands are well formed. The operand types leave one check: the configuration memory
presents an image of exactly 270 bytes (R6). Every other operand is in range by its type. `exec` is total all
the same: a byte the operand of LOAD_END lacks is read as FFh, as an absent memory presents it (R6). -/

namespace Sys2Proof

/-- LOAD_END carries the 270 bytes of R6; every other command is well formed as it stands. -/
def Instr.wellFormed (i : Instr) : Bool :=
  match i with
  | .loadEnd image => image.length == 270
  | .resetInputLow | .coldStart _ | .warmStart | .trkGoodCharacter _ _ _ | .trkFramingError _ _
  | .trkBreak _ _ | .trkBreakEnd _ | .trkGapTimeout _ | .lineSilenceExpiry _ | .telegramDelivery _
  | .pointSilenceExpiry _ | .handOff _ | .clearingTimerExpiry _ | .confirmWindowExpiry _
  | .dwellTimerExpiry _ | .portGoodCharacter _ _ | .rejoin _ _ | .portFramingError _ | .portBreak _
  | .portBreakEnd _ | .portGapTimeout _ | .answerSent _ | .status | .summary | .readSection | .readPoint
  | .readLine | .selectView | .readNext | .journalRead | .journalSeek | .identify | .setMask | .setInhibit
  | .proposeReset | .confirmReset | .cancelReset | .clearStatistics | .restart | .timeBaseMillisecond => true

end Sys2Proof
end

