-- ==== Sys2Proof/Laws/PerInstr.lean ====
section
/-! SUPPORT. A family of lemmas, one for each command: what can make its operands ill formed. -/

namespace Sys2Proof.Laws

/-- Only a LOAD_END can be ill formed, and only by the number of its image bytes. -/
def onlyImageLength.Statement (i : Instr) : Prop :=
  i.wellFormed = false → ∃ image : List Byte, i = .loadEnd image ∧ image.length ≠ 270

theorem onlyImageLength.resetInputLow :
    onlyImageLength.Statement .resetInputLow := by
  intro h
  exact Bool.noConfusion h

theorem onlyImageLength.coldStart (low : PortLevels) :
    onlyImageLength.Statement (.coldStart low) := by
  intro h
  exact Bool.noConfusion h

theorem onlyImageLength.loadEnd (image : List Byte) : onlyImageLength.Statement (.loadEnd image) := by
  intro h
  exact ⟨image, rfl, by simpa [Instr.wellFormed] using h⟩

theorem onlyImageLength.warmStart :
    onlyImageLength.Statement .warmStart := by
  intro h
  exact Bool.noConfusion h

theorem onlyImageLength.trkGoodCharacter (line : LineId) (byte : Byte) (early : Bool) :
    onlyImageLength.Statement (.trkGoodCharacter line byte early) := by
  intro h
  exact Bool.noConfusion h

theorem onlyImageLength.trkFramingError (line : LineId) (early : Bool) :
    onlyImageLength.Statement (.trkFramingError line early) := by
  intro h
  exact Bool.noConfusion h

theorem onlyImageLength.trkBreak (line : LineId) (early : Bool) :
    onlyImageLength.Statement (.trkBreak line early) := by
  intro h
  exact Bool.noConfusion h

theorem onlyImageLength.trkBreakEnd (line : LineId) :
    onlyImageLength.Statement (.trkBreakEnd line) := by
  intro h
  exact Bool.noConfusion h

theorem onlyImageLength.trkGapTimeout (line : LineId) :
    onlyImageLength.Statement (.trkGapTimeout line) := by
  intro h
  exact Bool.noConfusion h

theorem onlyImageLength.lineSilenceExpiry (line : LineId) :
    onlyImageLength.Statement (.lineSilenceExpiry line) := by
  intro h
  exact Bool.noConfusion h

theorem onlyImageLength.telegramDelivery (line : LineId) :
    onlyImageLength.Statement (.telegramDelivery line) := by
  intro h
  exact Bool.noConfusion h

theorem onlyImageLength.pointSilenceExpiry (point : PointId) :
    onlyImageLength.Statement (.pointSilenceExpiry point) := by
  intro h
  exact Bool.noConfusion h

theorem onlyImageLength.handOff (span : HandOffSpan) :
    onlyImageLength.Statement (.handOff span) := by
  intro h
  exact Bool.noConfusion h

theorem onlyImageLength.clearingTimerExpiry (sec : SectionId) :
    onlyImageLength.Statement (.clearingTimerExpiry sec) := by
  intro h
  exact Bool.noConfusion h

theorem onlyImageLength.confirmWindowExpiry (slot : SlotId) :
    onlyImageLength.Statement (.confirmWindowExpiry slot) := by
  intro h
  exact Bool.noConfusion h

theorem onlyImageLength.dwellTimerExpiry (port : PortId) :
    onlyImageLength.Statement (.dwellTimerExpiry port) := by
  intro h
  exact Bool.noConfusion h

theorem onlyImageLength.portGoodCharacter (port : PortId) (byte : Byte) :
    onlyImageLength.Statement (.portGoodCharacter port byte) := by
  intro h
  exact Bool.noConfusion h

theorem onlyImageLength.rejoin (port : PortId) (tag : Byte) :
    onlyImageLength.Statement (.rejoin port tag) := by
  intro h
  exact Bool.noConfusion h

theorem onlyImageLength.portFramingError (port : PortId) :
    onlyImageLength.Statement (.portFramingError port) := by
  intro h
  exact Bool.noConfusion h

theorem onlyImageLength.portBreak (port : PortId) :
    onlyImageLength.Statement (.portBreak port) := by
  intro h
  exact Bool.noConfusion h

theorem onlyImageLength.portBreakEnd (port : PortId) :
    onlyImageLength.Statement (.portBreakEnd port) := by
  intro h
  exact Bool.noConfusion h

theorem onlyImageLength.portGapTimeout (port : PortId) :
    onlyImageLength.Statement (.portGapTimeout port) := by
  intro h
  exact Bool.noConfusion h

theorem onlyImageLength.answerSent (port : PortId) :
    onlyImageLength.Statement (.answerSent port) := by
  intro h
  exact Bool.noConfusion h

theorem onlyImageLength.status :
    onlyImageLength.Statement .status := by
  intro h
  exact Bool.noConfusion h

theorem onlyImageLength.summary :
    onlyImageLength.Statement .summary := by
  intro h
  exact Bool.noConfusion h

theorem onlyImageLength.readSection :
    onlyImageLength.Statement .readSection := by
  intro h
  exact Bool.noConfusion h

theorem onlyImageLength.readPoint :
    onlyImageLength.Statement .readPoint := by
  intro h
  exact Bool.noConfusion h

theorem onlyImageLength.readLine :
    onlyImageLength.Statement .readLine := by
  intro h
  exact Bool.noConfusion h

theorem onlyImageLength.selectView :
    onlyImageLength.Statement .selectView := by
  intro h
  exact Bool.noConfusion h

theorem onlyImageLength.readNext :
    onlyImageLength.Statement .readNext := by
  intro h
  exact Bool.noConfusion h

theorem onlyImageLength.journalRead :
    onlyImageLength.Statement .journalRead := by
  intro h
  exact Bool.noConfusion h

theorem onlyImageLength.journalSeek :
    onlyImageLength.Statement .journalSeek := by
  intro h
  exact Bool.noConfusion h

theorem onlyImageLength.identify :
    onlyImageLength.Statement .identify := by
  intro h
  exact Bool.noConfusion h

theorem onlyImageLength.setMask :
    onlyImageLength.Statement .setMask := by
  intro h
  exact Bool.noConfusion h

theorem onlyImageLength.setInhibit :
    onlyImageLength.Statement .setInhibit := by
  intro h
  exact Bool.noConfusion h

theorem onlyImageLength.proposeReset :
    onlyImageLength.Statement .proposeReset := by
  intro h
  exact Bool.noConfusion h

theorem onlyImageLength.confirmReset :
    onlyImageLength.Statement .confirmReset := by
  intro h
  exact Bool.noConfusion h

theorem onlyImageLength.cancelReset :
    onlyImageLength.Statement .cancelReset := by
  intro h
  exact Bool.noConfusion h

theorem onlyImageLength.clearStatistics :
    onlyImageLength.Statement .clearStatistics := by
  intro h
  exact Bool.noConfusion h

theorem onlyImageLength.restart :
    onlyImageLength.Statement .restart := by
  intro h
  exact Bool.noConfusion h

theorem onlyImageLength.timeBaseMillisecond :
    onlyImageLength.Statement .timeBaseMillisecond := by
  intro h
  exact Bool.noConfusion h

end Sys2Proof.Laws
end

