-- ==== Sys2Proof/Tests/Slice0.lean ====
section
/-! SUPPORT. The model's own tests: the check of well-formedness, one or two small tests for each command with the
values the data book prints, and for each statement that has hypotheses a state and operands that meet them. -/

namespace Sys2Proof.Tests

open Sys2Proof.Machine Sys2Proof.Safety Sys2Proof.Claims

/- One theorem at a time: each holds a kernel evaluation, and many at once exhaust the threads. -/
set_option Elab.async false

/-! ### States -/

/-- The state a command answers. -/
def after (c : Instr) (s : State) : State :=
  match exec c s with
  | .next t => t
  | .fault _ | .refused _ => s

/-- RUNNING with no point and no section used; the settings of chapter 11. -/
def running : State := { State.reset with part := .running, commitLimit := 2, confirmWindow := 30000 }

/-- A telegram with free heads and no flag. -/
def tel (seq : BitVec 3) (cAB cBA : Byte) : Telegram := ⟨seq, cAB, cBA, false, false, false, false, false, false⟩

/-- DP 2 of the platform plan (1.2, 3.8): section 0 on side A, 5 on side B, lines 0 and 1, L 4, 50 ms, G 2. -/
def cfg2 : PointCfg := ⟨some 0, some 5, 0, 1, 4, 50, 4, 2⟩

/-- DP 2 in a state, its silence timer with a full silence time. -/
def dp2 (m : PointMode) : Point := { Point.cold with cfg := some cfg2, mode := m, silence := some 200 }

/-- RUNNING with DP 2 in a state. -/
def withDp2 (m : PointMode) : State := running.setPoint 2 (dp2 m)

/-- IN_SYNC after 3.8's first row: last sequence 4, older 3, baseline 42 and 0, expected 5. -/
def synced : PointMode := .inSync (tel 4 42 0) (some (tel 3 40 0)) 42 0 5

/-- A telegram of DP 2 waits at line 0. -/
def delivering (m : PointMode) (t : Telegram) : State :=
  (withDp2 m).setLine 0 { Line.cold with up := true, silence := some 500, deliveries := [⟨2, t⟩] }

/-- A section that permits both kinds of reset and whose boundary is DP 2's side. -/
def sectionIn (side : Side) (m : SectionMode) (net : Nat) : Section :=
  { Section.cold with cfg := some ⟨true, true, 200⟩, mode := m, net := net, boundary := [⟨2, side⟩] }

/-- DP 2 IN_SYNC between sections 0 and 5 in given states. -/
def between (m0 m5 : SectionMode) (net0 net5 : Nat) : State :=
  ((withDp2 synced).setSec 0 (sectionIn .a m0 net0)).setSec 5 (sectionIn .b m5 net5)

/-- Both sections DISTURBED since entry to RUNNING. -/
def disturbedPlan : State := between (.disturbed .start) (.disturbed .start) 0 0

/-- An open transaction in slot 0, shown by its section. -/
def withTxn (u : Txn) (s : State) : State :=
  (s.setSlot 0 (some u)).setSec u.sec { s.sec u.sec with openTxn := some u.number }

/-- DIRECT transaction 6 for section 0, proposed from MNT (11.4). -/
def txn6 : Txn := ⟨6, 0, .direct, .mnt, false, false, 30000⟩

/-- The request `r` alone waits, at port `p`. -/
def asking (p : PortId) (r : Request) (s : State) : State :=
  { s with
    arbMode := .fixed
    ports := tbuild fun i =>
      if portOfIndex i = p then { Port.cold with queue := [r], outstanding := 1 } else Port.cold }

/-- The answers that wait at port `p`: result and payload. -/
def answersAt (p : PortId) (s : State) : List (ResultCode × List Byte) :=
  (s.port p).answers.map fun a => (a.result, a.payload)

/-! ### Well-formedness -/

theorem test_wellFormed_refuses_short_image : (Instr.loadEnd []).wellFormed = false := by decide

theorem test_wellFormed_refuses_long_image : (Instr.loadEnd (List.replicate 271 0)).wellFormed = false := by
  decide +kernel

theorem test_wellFormed_accepts_270_bytes : (Instr.loadEnd (List.replicate 270 0)).wellFormed = true := by
  decide +kernel

/-! ### Formats (chapter 10) -/

/-- 10.1: the CRC of "123456789". -/
theorem test_crc_of_nine_digits : crc16 [0x31, 0x32, 0x33, 0x34, 0x35, 0x36, 0x37, 0x38, 0x39] = 0x29B1 := by
  decide +kernel

/-- 10.2: the two telegrams printed there. -/
theorem test_telegram_of_the_worked_case :
    telegramOf [0x07, 0x07, 0x04, 0x11, 0, 0] = ⟨7, tel 7 4 17⟩ ∧
      (telegramOf [0x27, 0x20, 0, 0, 0, 0]).telegram = { tel 0 0 0 with h2 := true, restart := true } := by
  decide +kernel

/-- 10.6: the AXLE and STATE records of the worked case in Count Arithmetic. -/
theorem test_record_bytes_of_the_worked_case :
    (recordBytes ⟨0, 0, .axle 7 10 0 (some 3) (some 4) 2 7⟩).drop 8 = [1, 7, 0x0A, 0, 3, 4, 2, 7] ∧
      (recordBytes ⟨0, 0, .state 3 .occupied .clearing none 0⟩).drop 8 = [2, 3, 4, 5, 0, 0, 0, 0] := by
  decide +kernel

/-- 10.9: the point entry of DP 2. -/
theorem test_point_entry_of_dp2 :
    pointCfgOf (List.replicate 24 0 ++ [0x84, 0x00, 0x05, 0x01, 0x0A, 0x42]) 2 = cfg2 := by
  decide +kernel

/-! ### The platform plan's image (1.2, 10.9) -/

/-- The point entries. -/
def pointEntryOf (d : Nat) : List Byte :=
  match d with
  | 1 => [0x84, 0xFF, 0x00, 0x01, 0x0A, 0x42]
  | 2 => [0x84, 0x00, 0x05, 0x01, 0x0A, 0x42]
  | 3 => [0x84, 0x05, 0x06, 0x12, 0x0A, 0x42]
  | 4 => [0x84, 0x05, 0x09, 0x12, 0x0A, 0x42]
  | 6 => [0x84, 0x06, 0xFF, 0x33, 0x0A, 0x41]
  | _ => [0, 0, 0, 0, 0, 0]

/-- The section entries. -/
def sectionEntryOf (n : Nat) : List Byte :=
  match n with
  | 0 | 5 => [0x83, 20]
  | 6 => [0x83, 10]
  | 9 => [0x83, 30]
  | _ => [0, 0]

/-- The 268 bytes before the CRC. -/
def imageBody : List Byte :=
  [0x9E, 0x24, 0x32, 0xAB, 0xCD, 0x01, 0x0E, 0x00, 0x00, 30, 2, 0x00] ++ (List.range 32).flatMap pointEntryOf ++
    (List.range 24).flatMap sectionEntryOf ++ (List.range 4).flatMap fun _ => [0x1F, 16, 0x00, 100]

/-- A body with its CRC. -/
def imageOf (body : List Byte) : List Byte := body ++ crcBytes (crc16 body)

set_option maxRecDepth 1000000 in
theorem test_good_image : imageFaultOf (presented (imageOf imageBody)) = .none := by decide +kernel

/-- R7: the label stays although the length is not 270. -/
theorem test_length_fault :
    imageFaultOf (presented [0x9E, 0x24, 0x32, 0xAB, 0xCD, 0x01, 0x0D]) = .length ∧
      keptLabel (presented [0x9E, 0x24, 0x32, 0xAB, 0xCD, 0x01, 0x0D]) = 0xABCD := by
  decide +kernel

set_option maxRecDepth 1000000 in
theorem test_check_fault : imageFaultOf (presented (imageBody ++ [0, 0])) = .check := by decide +kernel

set_option maxRecDepth 1000000 in
/-- 10.9: a fifth byte of 03h for DP 2, a 15 ms period. -/
theorem test_range_fault : imageFaultOf (presented (imageOf (imageBody.set 28 0x03))) = .range := by decide +kernel

set_option maxRecDepth 1000000 in
/-- 10.9: a fourth byte of 41h for DP 2, primary line 4. -/
theorem test_topology_fault : imageFaultOf (presented (imageOf (imageBody.set 27 0x41))) = .topology := by
  decide +kernel

/-- 1.2: the boundary lists derived from the plan. -/
theorem test_boundary_lists :
    boundaryOf (presented imageBody) 5 = [⟨2, .b⟩, ⟨3, .a⟩, ⟨4, .a⟩] ∧
      boundaryOf (presented imageBody) 9 = [⟨4, .b⟩] := by
  decide +kernel

/-! ### Starts and the Time Base (chapter 1) -/

/-- R11: an ISOLATED port's attention line, asserted, is deasserted. -/
theorem test_reset_input_low :
    let s := after .resetInputLow (settle (State.reset.setPort .mnt { Port.cold with isolated := true }))
    s.attn .mnt = false ∧ s.memSelect = false ∧ s.resetLow = true := by
  decide +kernel

/-- R12: a port whose receive line is low starts with its break flag set, the others clear. R10, R33: the image
parameters hold until the next load ends, which here is one of an absent memory. -/
theorem test_cold_start :
    let s := after (.coldStart ⟨false, true, false, false⟩) { withDp2 synced with resetLow := true, time := 77 }
    (s.port .ixb).asm.breakFlag = true ∧ (s.port .ixa).asm.breakFlag = false ∧ s.time = 0 ∧ s.part = .starting ∧
      (s.point 2).mode = .unused ∧ (s.point 2).cfg = some cfg2 ∧ s.commitLimit = 2 ∧
      ((after (.loadEnd []) s).point 2).cfg = none := by
  decide +kernel

set_option maxRecDepth 1000000 in
/-- 11.1, time 8: RUNNING, the points HUNT, the sections DISTURBED, one START record. -/
theorem test_load_end_good :
    let s := after (.loadEnd (imageOf imageBody)) { State.reset with time := 8 }
    s.part = .running ∧ (s.point 6).mode = .hunt ∧ (s.sec 9).mode = .disturbed .start ∧
      s.journal.at 0 = some ⟨0, 8, .start .cold 0xABCD .none⟩ ∧ s.journal.writeSeq = 1 := by
  decide +kernel

/-- R6, R7: an absent memory. -/
theorem test_load_end_no_image :
    let s := after (.loadEnd []) { State.reset with imageLabel := 7 }
    s.part = .unconfigured ∧ s.imageFault = .noImage ∧ s.imageLabel = 0 := by
  decide +kernel

/-- MNT sends the OK of RESTART, and another answer waits behind it. -/
def restarting : State :=
  { running with restartServed := true, time := 5 }.setPort .mnt
    { Port.cold with
      answers := [⟨.servedRestart, 9, .ok, []⟩, ⟨.immediate, 1, .busy, []⟩]
      outstanding := 1
      errorLevel := 3 }

/-- R16: the answer not begun is dropped, the error level is 0, the count stays. -/
theorem test_warm_start :
    let s := after .warmStart restarting
    s.part = .starting ∧ s.startKind = .warm ∧ (s.port .mnt).answers = [] ∧ (s.port .mnt).outstanding = 0 ∧
      (s.port .mnt).errorLevel = 0 ∧ s.time = 5 := by
  decide +kernel

/-- R5: the count wraps; a running timer loses a millisecond. -/
theorem test_time_base :
    let s := after .timeBaseMillisecond { withDp2 synced with time := 0xFFFFFFFF }
    s.time = 0 ∧ (s.point 2).silence = some 199 := by
  decide +kernel

/-! ### Trackside lines (chapter 2) -/

/-- Line 0 holds five of the six bytes after the marker of a telegram of DP 2: sequence 5, cAB 44, cBA 0. -/
def oneByteShort : State :=
  let bytes : List Byte := [0x02, 0x05, 44, 0x00]
  (withDp2 synced).setLine 0
    { Line.cold with asm := ⟨.collect, bytes ++ (crcBytes (crc16 bytes)).take 1, some 2, false⟩ }

/-- The last byte of that telegram. -/
def lastByte : Byte := byteAt (crcBytes (crc16 [0x02, 0x05, 44, 0x00])) 1

/-- R26, R28: the telegram is handed on, and the line is UP with its silence timer at 500 ms. -/
theorem test_trk_good_character :
    let s := after (.trkGoodCharacter 0 lastByte false) oneByteShort
    (s.line 0).deliveries = [⟨2, tel 5 44 0⟩] ∧ (s.line 0).up = true ∧ (s.line 0).silence = some 500 ∧
      (s.line 0).valid = 1 := by
  decide +kernel

/-- R25: a wrong CRC byte. -/
theorem test_trk_good_character_check :
    let s := after (.trkGoodCharacter 0 (lastByte + 1) false) oneByteShort
    (s.line 0).deliveries = [] ∧ (s.line 0).check = 1 ∧ (s.line 0).up = false := by
  decide +kernel

/-- R23. -/
theorem test_trk_framing_error :
    let s := after (.trkFramingError 0 false) oneByteShort
    (s.line 0).lineError = 1 ∧ (s.line 0).asm.state = .search ∧ (s.line 0).asm.breakFlag = false := by
  decide +kernel

/-- R24. -/
theorem test_trk_break :
    let s := after (.trkBreak 0 false) oneByteShort
    (s.line 0).lineError = 1 ∧ (s.line 0).asm.breakFlag = true := by
  decide +kernel

/-- R24: until the line is high again, no character is taken. -/
theorem test_trk_break_end :
    let s := after (.trkBreak 0 false) oneByteShort
    ((after (.trkGoodCharacter 0 0xC3 false) s).line 0).asm.state = .search ∧ ((after (.trkBreakEnd 0) s).line 0).asm.breakFlag = false := by
  decide +kernel

/-- R22. -/
theorem test_trk_gap_timeout :
    let s := after (.trkGapTimeout 0) (running.setLine 0 { Line.cold with asm := ⟨.collect, [2], some 0, false⟩ })
    (s.line 0).timeout = 1 ∧ (s.line 0).asm.held = [] := by
  decide +kernel

/-- R28. -/
theorem test_line_silence_expiry :
    let s := after (.lineSilenceExpiry 3) (running.setLine 3 { Line.cold with up := true, silence := some 0 })
    (s.line 3).up = false ∧ s.journal.at 0 = some ⟨0, 0, .line 3 false⟩ := by
  decide +kernel

/-! ### Detection points and counting (chapters 3 and 4) -/

/-- 4.1: a baseline of 250 and a count of 4 give a delta of 10, within the limit 4 × 3 of a gap of 2. -/
theorem test_telegram_accepted_across_the_wrap :
    let s := after (.telegramDelivery 0) (delivering (.inSync (tel 4 250 17) none 250 17 5) (tel 7 4 17))
    s.handOff = some ⟨2, 10, 0, 2, 7, false, false, false, false, .waiting⟩ ∧ (s.point 2).stats.lost = 2 ∧
      (s.point 2).mode = .inSync (tel 7 4 17) none 4 17 0 := by
  decide +kernel

/-- 3.8, time 1256: sequence 0 is e − 2 and the history is one deep; a departure with cause SEQUENCE. -/
theorem test_telegram_sequence_break :
    let s := after (.telegramDelivery 0) (delivering (.inSync (tel 1 52 0) none 52 0 2) (tel 0 50 0))
    (s.point 2).mode = .pending (tel 0 50 0) ∧ (s.point 2).lastCause = some .sequence ∧
      (s.point 2).stats.sequenceBreaks = 1 ∧
      s.journal.at 0 = some ⟨0, 0, .point 2 .inSync .pending (some .sequence) .stateChange⟩ := by
  decide +kernel

/-- 4.1's table of backward counts and of limits. -/
theorem test_plausibility_table :
    plausible (3 - 4) 0 15 5 = false ∧ plausible (10 - 100) 0 15 5 = false ∧ plausible 12 0 4 2 = true ∧
      plausible 12 1 4 2 = false := by
  decide

/-- R51: a departure with cause POINT_LOST disturbs both sections, side A first. -/
theorem test_point_silence_expiry :
    let s0 := between .clear (.disturbed .start) 0 0
    let s := after (.pointSilenceExpiry 2) (s0.setPoint 2 { s0.point 2 with silence := some 0 })
    (s.point 2).mode = .lost ∧ (s.sec 0).mode = .disturbed .pointLost ∧ (s.sec 5).repeatCount = 1 ∧
      s.journal.at 1 = some ⟨1, 0, .state 0 .clear .disturbed (some .pointLost) 0⟩ ∧ s.journal.writeSeq = 2 := by
  decide +kernel

/-- R54, R88, R111: the departure of DP 2 with a transaction open for section 0, which is DISTURBED already. -/
theorem test_departure_with_open_transaction :
    let s := withTxn txn6 disturbedPlan
    let t := depart 2 cfg2 (s.point 2) .sequence (some (tel 0 50 0)) s
    (t.sec 0).repeatCount = 1 ∧ (t.sec 0).openTxn = none ∧ t.slot 0 = none ∧
      t.journal.at 0 = some ⟨0, 0, .point 2 .inSync .pending (some .sequence) .stateChange⟩ ∧
      t.journal.at 1 = some ⟨1, 0, .reset 6 0 .direct (.cancelled .point)⟩ ∧ t.journal.writeSeq = 2 ∧
      (t.watch .mnt).latchReset = true ∧ (t.watch .ixa).latchSection = false := by
  decide +kernel

/-- 11.2, time 200: three axles leave section 0, which goes to CLEARING, for section 5. -/
theorem test_hand_off :
    let s := after (.handOff .whole)
      { between .occupied .occupied 3 9 with
        handOff := some ⟨2, 3, 0, 0, 7, true, true, false, false, .waiting⟩ }
    (s.sec 0).mode = .clearing 200 ∧ (s.sec 0).net = 0 ∧ (s.sec 5).net = 12 ∧
      s.journal.at 0 = some ⟨0, 0, .axle 2 3 0 (some 0) (some 5) 0 7⟩ ∧
      s.journal.at 1 = some ⟨1, 0, .state 0 .occupied .clearing none 0⟩ := by
  decide +kernel

/-- 11.4, the hand-off taken first: the DIRECT transaction is cancelled with reason ACTIVITY. -/
theorem test_hand_off_cancels_direct :
    let s := after (.handOff .whole)
      { withTxn txn6 disturbedPlan with
        handOff := some ⟨2, 0, 1, 0, 7, false, false, true, false, .waiting⟩ }
    s.slot 0 = none ∧ (s.sec 0).openTxn = none ∧ (s.sec 0).net = 1 ∧
      s.journal.at 1 = some ⟨1, 0, .reset 6 0 .direct (.cancelled .activity)⟩ ∧
      (s.watch .mnt).latchReset = true ∧ (s.watch .recorder).latchReset = false := by
  decide +kernel

/-- R83. -/
theorem test_clearing_timer_expiry :
    let s := after (.clearingTimerExpiry 5) (between .clear (.clearing 0) 0 0)
    (s.sec 5).mode = .clear ∧ s.journal.at 0 = some ⟨0, 0, .state 5 .clearing .clear none 0⟩ := by
  decide +kernel

/-! ### Reset transactions (chapter 6) -/

/-- R114. -/
theorem test_confirm_window_expiry :
    let s := after (.confirmWindowExpiry 0) (withTxn { txn6 with window := 0 } disturbedPlan)
    s.slot 0 = none ∧ s.journal.at 0 = some ⟨0, 0, .reset 6 0 .direct .expired⟩ := by
  decide +kernel

/-- 11.3: IXA's proposal of a PREPARATORY reset with the counter at 5. -/
theorem test_propose_reset :
    let s := after .proposeReset
      (asking .ixa ⟨.proposeReset, 1, [0, 1]⟩ { disturbedPlan with txnCounter := 5 })
    answersAt .ixa s = [(.ok, [5])] ∧ s.slot 0 = some ⟨5, 0, .preparatory, .ixa, true, false, 30000⟩ ∧
      s.txnCounter = 6 ∧ s.journal.at 0 = some ⟨0, 0, .reset 5 0 .preparatory (.proposed .ixa)⟩ := by
  decide +kernel

/-- 11.3, time 62 000: IXB's confirmation completes it; CONFIRMED, COMPLETED, STATE to PREPARED. -/
theorem test_confirm_reset :
    let s := after .confirmReset (asking .ixb ⟨.confirmReset, 1, [5, 0]⟩
      (withTxn ⟨5, 0, .preparatory, .ixa, true, false, 28000⟩ disturbedPlan))
    answersAt .ixb s = [(.ok, [1])] ∧ (s.sec 0).mode = .prepared ∧ s.slot 0 = none ∧
      s.journal.at 2 = some ⟨2, 0, .state 0 .disturbed .prepared none 0⟩ := by
  decide +kernel

/-- R107: a confirmation that names another section cancels with MISMATCH. -/
theorem test_confirm_reset_mismatch :
    let s := after .confirmReset (asking .ixb ⟨.confirmReset, 1, [5, 5]⟩
      (withTxn ⟨5, 0, .preparatory, .ixa, true, false, 28000⟩ disturbedPlan))
    answersAt .ixb s = [(.mismatch, [])] ∧ s.slot 0 = none ∧
      s.journal.at 0 = some ⟨0, 0, .reset 5 0 .preparatory (.cancelled .mismatch)⟩ := by
  decide +kernel

/-- R112: MNT may not cancel what a channel proposed. -/
theorem test_cancel_reset :
    let s := withTxn ⟨5, 0, .preparatory, .ixa, true, false, 28000⟩ disturbedPlan
    answersAt .mnt (after .cancelReset (asking .mnt ⟨.cancelReset, 1, [5]⟩ s)) = [(.notPermitted, [])] ∧
      answersAt .ixb (after .cancelReset (asking .ixb ⟨.cancelReset, 1, [5]⟩ s)) = [(.ok, [])] := by
  decide +kernel

/-- R93, R116: inhibit B comes on, and the open transaction is cancelled. -/
theorem test_set_inhibit :
    let s := after .setInhibit (asking .ixb ⟨.setInhibit, 1, [0, 1]⟩ (withTxn txn6 disturbedPlan))
    (s.sec 0).inhibitB = true ∧ (s.sec 0).inhibitA = false ∧ s.slot 0 = none ∧
      s.journal.at 0 = some ⟨0, 0, .reset 6 0 .direct (.cancelled .inhibited)⟩ := by
  decide +kernel

/-! ### The journal (chapter 7) and attention (chapter 9) -/

/-- 7.8: the append of record 1000 with the cursor at 488. -/
theorem test_slip_of_the_worked_sequence :
    let x := watchAppend 1000 true { Watch.cold with cursor := 488 }
    x.cursor = 745 ∧ x.slipCount = 257 ∧ x.latchSection = true ∧ unread 1001 x = 256 := by
  decide +kernel

/-- R136: the SLIP item, then the record at the cursor. -/
theorem test_journal_read :
    let s := append (.line 1 true) running
    let t := after .journalRead (asking .recorder ⟨.journalRead, 1, [4]⟩
      (s.setWatch .recorder { s.watch .recorder with slipCount := 257 }))
    answersAt .recorder t = [(.ok, slipBytes 0 0 257 ++ recordBytes ⟨0, 0, .line 1 true⟩)] ∧
      (t.watch .recorder).cursor = 1 ∧ (t.watch .recorder).slipCount = 0 := by
  decide +kernel

/-- R136: with no slip and nothing unread, EMPTY; the dwell timer starts. -/
theorem test_journal_read_empty :
    let t := after .journalRead (asking .ixa ⟨.journalRead, 1, [0]⟩ running)
    answersAt .ixa t = [(.empty, [])] ∧ (t.watch .ixa).dwell = some 1000 := by
  decide +kernel

/-- R138: NEWEST. -/
theorem test_journal_seek :
    let t := after .journalSeek (asking .mnt ⟨.journalSeek, 1, [1]⟩ (append (.line 1 true) running))
    answersAt .mnt t = [(.ok, [0, 0, 0, 1])] ∧ (t.watch .mnt).cursor = 1 := by
  decide +kernel

/-- R140: records unread, so DWELL; the timer stops. -/
theorem test_dwell_timer_expiry :
    let s := append (.line 1 true) running
    let t := after (.dwellTimerExpiry .ixb) (s.setWatch .ixb { s.watch .ixb with dwell := some 0 })
    (t.watch .ixb).latchDwell = true ∧ (t.watch .ixb).dwell = none := by
  decide +kernel

/-- R175: RESET before LEVEL; its latch clears, and LEVEL is still pending. -/
theorem test_identify :
    let s := append (.line 1 true) running
    let t := after .identify (asking .ixa ⟨.identify, 1, []⟩
      (s.setWatch .ixa { s.watch .ixa with latchReset := true }))
    answersAt .ixa t = [(.ok, [0x03, 0x08, 0x1F, 0, 1])] ∧ (t.watch .ixa).latchReset = false := by
  decide +kernel

/-- R174: bits 5 to 7 are ignored. -/
theorem test_set_mask :
    let t := after .setMask (asking .ixa ⟨.setMask, 1, [0xE3]⟩ running)
    answersAt .ixa t = [(.ok, [0x03])] ∧ (t.watch .ixa).mask = 0b00011 := by
  decide +kernel

/-! ### Master ports and requests (chapter 8) -/

/-- IXA holds all but the last byte of a STATUS request with tag 7. -/
def frameShort : State :=
  let bytes : List Byte := [7, 0x01, 0]
  running.setPort .ixa
    { Port.cold with asm := ⟨.collect, bytes ++ (crcBytes (crc16 bytes)).take 1, some 4, false⟩, errorLevel := 2 }

/-- Its last byte. -/
def frameEnd : Byte := byteAt (crcBytes (crc16 [7, 0x01, 0])) 1

/-- R150: the request is queued, and the error level falls by one. -/
theorem test_port_good_character :
    let s := after (.portGoodCharacter .ixa frameEnd) frameShort
    (s.port .ixa).queue = [⟨.status, 7, []⟩] ∧ (s.port .ixa).outstanding = 1 ∧ (s.port .ixa).errorLevel = 1 := by
  decide +kernel

/-- R147: a CRC mismatch is a link error, which sets LINK. -/
theorem test_port_good_character_check :
    let s := after (.portGoodCharacter .ixa (frameEnd + 1)) frameShort
    (s.port .ixa).queue = [] ∧ (s.port .ixa).errorLevel = 3 ∧ (s.watch .ixa).latchLink = true := by
  decide +kernel

/-- R153: an ISOLATED port becomes ACTIVE. -/
theorem test_rejoin :
    let s := after (.rejoin .ixb 5) (running.setPort .ixb { Port.cold with isolated := true, errorLevel := 16 })
    (s.port .ixb).isolated = false ∧ (s.port .ixb).errorLevel = 0 ∧
      (s.port .ixb).answers = [⟨.immediate, 5, .ok, []⟩] ∧
      s.journal.at 0 = some ⟨0, 0, .port .ixb .rejoined⟩ := by
  decide +kernel

/-- R152: the sixteenth link error isolates a port with threshold 16 and drops its queue. -/
theorem test_port_framing_error :
    let s := after (.portFramingError .ixa) (running.setPort .ixa
      { Port.cold with errorLevel := 15, queue := [⟨.status, 1, []⟩], outstanding := 1 })
    (s.port .ixa).isolated = true ∧ (s.port .ixa).queue = [] ∧ (s.port .ixa).outstanding = 0 ∧
      s.attn .ixa = true := by
  decide +kernel

/-- R148: a link reset is no link error. -/
theorem test_port_break :
    let s := after (.portBreak .ixa) frameShort
    (s.port .ixa).asm.breakFlag = true ∧ (s.port .ixa).errorLevel = 2 ∧
      s.journal.at 0 = some ⟨0, 0, .port .ixa .linkReset⟩ := by
  decide +kernel

/-- R148. -/
theorem test_port_break_end :
    let s := after (.portBreakEnd .ixa) (after (.portBreak .ixa) frameShort)
    (s.port .ixa).asm.breakFlag = false ∧ s.journal.writeSeq = 1 := by
  decide +kernel

/-- R146. -/
theorem test_port_gap_timeout :
    let s := after (.portGapTimeout .mnt) (running.setPort .mnt { Port.cold with asm := ⟨.collect, [1], some 0, false⟩ })
    (s.port .mnt).errorLevel = 1 ∧ (s.port .mnt).asm.state = .search := by
  decide +kernel

/-- R154: the slot of the answer is free. -/
theorem test_answer_sent :
    let s := after (.answerSent .ixa)
      (running.setPort .ixa { Port.cold with answers := [⟨.served, 1, .ok, []⟩], outstanding := 1 })
    (s.port .ixa).answers = [] ∧ (s.port .ixa).outstanding = 0 := by
  decide +kernel

/-- R17, 10.4: RUNNING, NONE, the label, the count, W, error level 0, no slip, one point IN_SYNC. -/
theorem test_status :
    let s := { withDp2 synced with time := 0x01020304, imageLabel := 0xABCD }
    answersAt .ixa (after .status (asking .ixa ⟨.status, 1, []⟩ s)) =
      [(.ok, [1, 0, 0xAB, 0xCD, 1, 2, 3, 4, 0, 0, 0, 0, 0, 0, 0, 0, 0, 1, 0, 0])] := by
  decide +kernel

/-- 10.4: section 0 CLEAR, 5 NOT_CLEAR, 6 DISTURBED, 9 CLEAR read 03h, 18h, 0Ch. -/
theorem test_summary :
    let s := ((between .clear .occupied 0 4).setSec 6 (sectionIn .a (.disturbed .start) 0)).setSec 9
      (sectionIn .b .clear 0)
    answersAt .ixa (after .summary (asking .ixa ⟨.summary, 1, []⟩ s)) =
      [(.ok, [1, 0, 0, 0x03, 0x18, 0x0C, 0, 0, 0])] := by
  decide +kernel

/-- 10.5: section 5 OCCUPIED with net 4; its boundary is DP 2 side B. -/
theorem test_read_section :
    answersAt .ixa (after .readSection (asking .ixa ⟨.readSection, 1, [5]⟩ (between .clear .occupied 0 4))) =
      [(.ok, [5, 1, 4, 0, 4, 0, 0, 0, 0, 0x18, 0, 0, 0xFF, 0xFF, 0, 0, 200, 1, 2, 1, 0xFF, 0xFF, 0xFF, 0xFF, 0xFF,
        0xFF, 0xFF, 0xFF, 0xFF, 0xFF])] := by
  decide +kernel

/-- 10.5: DP 2 after 3.8's first row. -/
theorem test_read_point :
    answersAt .ixa (after .readPoint (asking .ixa ⟨.readPoint, 1, [2]⟩ (withDp2 synced))) =
      [(.ok, [2, 1, 3, 0, 5, 0, 1, 4, 2, 5, 42, 0, 2, 0xFF, 0, 0xFF, 0, 0, 200, 0, 0, 0, 0, 0, 0, 0, 0, 0, 0, 0,
        0])] := by
  decide +kernel

/-- R31, 10.5: line 3 UP with 2 valid frames, the last one 100 ms ago. -/
theorem test_read_line :
    let s := { running.setLine 3 { Line.cold with up := true, valid := 2, lastValid := some 50 } with time := 150 }
    answersAt .ixa (after .readLine (asking .ixa ⟨.readLine, 1, [3]⟩ s)) =
      [(.ok, [3, 1, 0, 2, 0, 0, 0, 0, 0, 0, 0, 0, 0, 100])] := by
  decide +kernel

/-- R163: a view of 3 is RANGE. -/
theorem test_select_view :
    ((after .selectView (asking .ixa ⟨.selectView, 1, [2]⟩ running)).port .ixa).view = .lines ∧
      answersAt .ixa (after .selectView (asking .ixa ⟨.selectView, 1, [3]⟩ running)) = [(.range, [])] := by
  decide +kernel

/-- R164: the last line carries the wrap mark, and the view cursor returns to 0. -/
theorem test_read_next :
    let s0 := asking .ixa ⟨.readNext, 1, []⟩ running
    let s := after .readNext (s0.setPort .ixa { s0.port .ixa with view := .lines, viewCursor := 3 })
    (s.port .ixa).viewCursor = 0 ∧
      answersAt .ixa s = [(.ok, [1, 3, 0, 0, 0, 0, 0, 0, 0, 0, 0, 0, 0, 0xFF, 0xFF])] := by
  decide +kernel

/-- R165; and R159: no port but MNT. -/
theorem test_clear_statistics :
    let s := running.setLine 3 { Line.cold with valid := 2, lastValid := some 50 }
    let t := after .clearStatistics (asking .mnt ⟨.clearStatistics, 1, []⟩ s)
    (t.line 3).valid = 0 ∧ (t.line 3).lastValid = some 50 ∧
      answersAt .ixa (after .clearStatistics (asking .ixa ⟨.clearStatistics, 1, []⟩ s)) = [(.notPermitted, [])] := by
  decide +kernel

/-- R16: after RESTART is served no further request is taken. -/
theorem test_restart :
    let t := after .restart (asking .mnt ⟨.restart, 1, []⟩ running)
    t.restartServed = true ∧ ((t.port .mnt).answers.map Answer.kind) = [.servedRestart] ∧
      answersAt .ixa (after .status (asking .ixa ⟨.status, 1, []⟩ t)) = [] := by
  decide +kernel

/-- 11.6, turn 1: pointers at IXB and MNT, every port with a request; REC is served. In FIXED mode it is IXA. -/
theorem test_arbiter_of_the_busy_minute :
    let s := { running with
      arbOne := .ixb
      arbTwo := .mnt
      ports := Vector.replicate 4 { Port.cold with queue := [⟨.status, 1, []⟩], outstanding := 1 } }
    choose s = some (.recorder, .low, .recorder) ∧
      (choose { s with arbMode := .fixed }).map Prod.fst = some .ixa := by
  decide +kernel

/-! ### States and operands that meet the statements' hypotheses -/

theorem asking_port (p q : PortId) (r : Request) (s : State) :
    ((asking p r s).port q).queue = if q = p then [r] else [] := by
  cases p <;> cases q <;> rfl

/-- The engine takes the one request that waits. -/
theorem takes_asking (p : PortId) (r : Request) {s : State} (ready : engineReady s = true) :
    Takes (asking p r s) p r [] s.arbOne s.arbTwo := by
  simp only [engineReady, State.live, handOffUnderWay, Bool.and_eq_true, Bool.not_eq_true', bne_iff_ne, ne_eq] at ready
  obtain ⟨⟨⟨h1, h2⟩, h3⟩, h4⟩ := ready
  refine ⟨h1, h2, h3, fun h hh => ?_, ?_, ?_⟩
  · have hs : s.handOff = some h := hh
    simpa [hs] using h4
  · cases p <;> simp [choose, chooseFixed, hasRequest, asking_port] <;> simp [asking]
  · simp [asking_port]

/-- The engine is ready in each of the base states. -/
theorem ready_states :
    engineReady running = true ∧ engineReady disturbedPlan = true ∧ engineReady (withTxn txn6 disturbedPlan) = true := by
  decide +kernel

theorem txnSound_none {s : State} (limit : s.commitLimit ≤ 4) (h : ∀ k, s.slot k = none) : TxnSound s where
  limit_le := limit
  limit := by simp [openSlots, h]
  one_section := fun j k t u ht => by simp [h] at ht
  one_number := fun j k t u ht => by simp [h] at ht
  disturbed := fun k t ht => by simp [h] at ht
  unconfirmed := fun k t ht => by simp [h] at ht
  direct_mnt := fun k t ht => by simp [h] at ht

/-- One open transaction, in slot 0, is sound in a plan with no other. -/
theorem txnSound_one {s : State} {u : Txn} (h : ∀ k, s.slot k = if k = 0 then some u else none)
    (four : s.commitLimit ≤ 4) (limit : openSlots s ≤ s.commitLimit)
    (dist : (s.sec u.sec).isDisturbed = true ∧ (s.sec u.sec).openTxn = some u.number)
    (conf : (u.byIxa && u.byIxb) = false) (direct : u.kind = .direct → u.proposer = .mnt) : TxnSound s := by
  have only : ∀ k t, s.slot k = some t → k = 0 ∧ t = u := by
    intro k t hk
    rw [h] at hk
    split at hk
    · exact ⟨‹_›, (Option.some.inj hk).symm⟩
    · cases hk
  refine ⟨four, limit, ?_, ?_, ?_, ?_, ?_⟩
  · intro j k t v ht hv _
    rw [(only j t ht).1, (only k v hv).1]
  · intro j k t v ht hv _
    rw [(only j t ht).1, (only k v hv).1]
  · intro k t ht
    rw [(only k t ht).2]
    exact dist
  · intro k t ht
    rw [(only k t ht).2]
    exact conf
  · intro k t ht
    rw [(only k t ht).2]
    exact direct

theorem no_transaction {s : State} (h : ∀ k, s.slot k = none) {q : SlotId → Txn → Prop} :
    ∀ k u, s.slot k = some u → q k u := by
  intro k u hk
  simp [h k] at hk

theorem disturbedPlan_slots : ∀ k, disturbedPlan.slot k = none := by decide +kernel

theorem disturbedPlan_sound : TxnSound disturbedPlan := txnSound_none (by decide) disturbedPlan_slots

/-- Transactions that only need their own fields checked. -/
theorem withTxn_sound {u : Txn} (two : u.sec = 0) (conf : (u.byIxa && u.byIxb) = false)
    (direct : u.kind = .direct → u.proposer = .mnt) : TxnSound (withTxn u disturbedPlan) := by
  have slots : ∀ k, (withTxn u disturbedPlan).slot k = if k = 0 then some u else none := by
    intro k
    by_cases hk : k = 0
    · subst hk
      simp [withTxn]
    · simp [withTxn, State.setSlot_ne _ _ _ _ hk, disturbedPlan_slots, hk]
  refine txnSound_one slots (by simp [withTxn, disturbedPlan, between, withDp2, running]) ?_ ?_ conf direct
  · have limit : (withTxn u disturbedPlan).commitLimit = 2 := rfl
    simp [openSlots, allSlots, slots, limit]
  · rw [two]
    simp [withTxn, two, disturbedPlan, between, Section.isDisturbed, sectionIn, SectionMode.name, State.setSec_ne]

theorem witness_stepRunsFrontCommand : State.reset.pending = [] := rfl

theorem witness_resetInputLowHoldsInactive :
    ({ running with resetLow := true } : State).resetLow = true ∧ (∀ low, Instr.status ≠ .coldStart low) ∧
      Instr.status ≠ .resetInputLow ∧ Instr.status ≠ .timeBaseMillisecond := by
  refine ⟨rfl, fun low => ?_, ?_, ?_⟩ <;> exact Instr.noConfusion

theorem witness_coldStartSets : ∀ p, lineLow ⟨true, true, true, true⟩ p = true := by
  intro p
  cases p <;> rfl

theorem witness_loadEndEntersRunning :
    State.reset.resetLow = false ∧ State.reset.part = .starting ∧
      imageFaultOf (presented (imageOf imageBody)) = .none := ⟨rfl, rfl, test_good_image⟩

theorem witness_loadEndEntersRunning_entries :
    UsedPoint (presented imageBody) 2 ∧ ¬ UsedPoint (presented imageBody) 31 ∧ UsedSection (presented imageBody) 0 ∧
      ¬ UsedSection (presented imageBody) 23 := by
  simp only [UsedPoint, UsedSection]
  decide +kernel

theorem witness_loadEndEntersUnconfigured :
    State.reset.resetLow = false ∧ State.reset.part = .starting ∧ imageFaultOf (presented []) = .noImage ∧
      imageFaultOf (presented [0x9E, 0x24, 0x32, 0xAB, 0xCD, 0x01, 0x0D]) ≠ .none := by
  decide +kernel

theorem witness_warmStartSets :
    restarting.resetLow = false ∧ PortsSound restarting ∧
      (restarting.port .mnt).answers = [⟨.servedRestart, 9, .ok, []⟩, ⟨.immediate, 1, .busy, []⟩] ∧
      (Answer.mk .servedRestart 9 .ok []).kind = .servedRestart := by
  refine ⟨rfl, fun p => ?_, by decide +kernel, rfl⟩
  cases p <;> constructor <;> decide +kernel

theorem witness_timeBaseCounts :
    InService (between (.clearing 5) .clear 0 0) ∧ ((between (.clearing 5) .clear 0 0).sec 0).mode = .clearing 5 ∧
      ((between (.clearing 5) .clear 0 0).sec 5).mode.name ≠ .clearing ∧ ¬ InService State.reset ∧
      State.reset.resetLow = false ∧ ({ running with resetLow := true } : State).resetLow = true := by
  simp only [InService]
  decide +kernel

theorem witness_tracksideCharacter :
    InService running ∧ (running.line 0).asm.breakFlag = false ∧ (running.line 0).asm.state = .search ∧
      (0xC2 : Byte) ≠ 0xC3 ∧ ¬ InService State.reset := by
  simp only [InService]
  decide +kernel

theorem witness_tracksideCharacter_collect :
    let s := running.setLine 0 { Line.cold with asm := ⟨.collect, [2, 5, 44, 0], some 2, false⟩ }
    InService s ∧ (s.line 0).asm.breakFlag = false ∧ (s.line 0).asm.state = .collect ∧
      (s.line 0).asm.held.length < 5 := by
  simp only [InService]
  decide +kernel

theorem witness_tracksideFrameComplete :
    InService oneByteShort ∧ (oneByteShort.line 0).asm.state = .collect ∧
      (oneByteShort.line 0).asm.breakFlag = false ∧ (oneByteShort.line 0).asm.held.length = 5 ∧
      crc16 (((oneByteShort.line 0).asm.held ++ [lastByte]).take 4) =
        halfAt ((oneByteShort.line 0).asm.held ++ [lastByte]) 4 ∧
      ¬ crc16 (((oneByteShort.line 0).asm.held ++ [lastByte + 1]).take 4) =
        halfAt ((oneByteShort.line 0).asm.held ++ [lastByte + 1]) 4 ∧
      (byteAt ((oneByteShort.line 0).asm.held ++ [lastByte]) 0).getLsbD 6 = false ∧
      (byteAt ((oneByteShort.line 0).asm.held ++ [lastByte]) 0).getLsbD 7 = false ∧
      (oneByteShort.point 2).cfg = some cfg2 ∧ cfg2.primary = 0 := by
  simp only [InService]
  decide +kernel

/-- The same bytes at line 3, which is neither line of DP 2. -/
theorem witness_tracksideFrameComplete_misrouted :
    let s := oneByteShort.setLine 3 (oneByteShort.line 0)
    InService s ∧ (s.line 3).asm.state = .collect ∧ (s.line 3).asm.breakFlag = false ∧
      (s.line 3).asm.held.length = 5 ∧
      ¬ ∃ c, (s.point (telegramOf ((s.line 3).asm.held ++ [lastByte])).point).cfg = some c ∧
        (c.primary = 3 ∨ c.secondary = 3) := by
  refine ⟨⟨rfl, rfl⟩, by decide +kernel, by decide +kernel, by decide +kernel, ?_⟩
  have h : ((oneByteShort.setLine 3 (oneByteShort.line 0)).point
      (telegramOf (((oneByteShort.setLine 3 (oneByteShort.line 0)).line 3).asm.held ++ [lastByte])).point).cfg =
      some cfg2 := by decide +kernel
  rintro ⟨c, hc, hl⟩
  rw [h] at hc
  obtain rfl := Option.some.inj hc
  revert hl
  decide

theorem witness_tracksideErrorsAndTimers :
    let s := ((running.setLine 1 { Line.cold with asm := ⟨.search, [], none, true⟩ }).setLine 2
      { Line.cold with asm := ⟨.collect, [2], some 0, false⟩ }).setLine 3 { Line.cold with up := true, silence := some 0 }
    InService s ∧ (s.line 0).asm.breakFlag = false ∧ (s.line 1).asm.breakFlag = true ∧
      (s.line 2).asm.state = .collect ∧ (s.line 2).asm.gap = some 0 ∧ (s.line 3).up = true ∧
      (s.line 3).silence = some 0 := by
  simp only [InService]
  decide +kernel

/-! Telegrams. -/

theorem delivers (m : PointMode) (t : Telegram) :
    Delivers (delivering m t) 0 ⟨2, t⟩ [] cfg2 ∧ ((delivering m t).point 2).mode = m := by
  refine ⟨⟨⟨rfl, rfl⟩, rfl, ?_, ?_⟩, ?_⟩ <;> simp [delivering, withDp2, dp2]

/-- Head fault 1 set. -/
def faulty : Telegram := { tel 5 44 0 with fault1 := true }

theorem witness_telegramOutsideSync :
    (Delivers (delivering .hunt (tel 5 44 0)) 0 ⟨2, tel 5 44 0⟩ [] cfg2 ∧ ¬ Faulty (tel 5 44 0)) ∧
      (Delivers (delivering .lost faulty) 0 ⟨2, faulty⟩ [] cfg2 ∧ Faulty faulty) ∧
      ((delivering .faulted faulty).point 2).mode = .faulted :=
  ⟨⟨(delivers _ _).1, by simp [Faulty, tel]⟩, ⟨(delivers _ _).1, .inl rfl⟩, (delivers _ _).2⟩

/-- One delivery for each row of R37 at a candidate of sequence 4. -/
theorem witness_telegramInPending :
    (∀ t, Delivers (delivering (.pending (tel 4 42 0)) t) 0 ⟨2, t⟩ [] cfg2 ∧
      ((delivering (.pending (tel 4 42 0)) t).point 2).mode = .pending (tel 4 42 0)) ∧
      Faulty faulty ∧ ¬ Faulty (tel 5 44 0) ∧ (tel 5 44 0).seq = (tel 4 42 0).seq + 1 ∧
      (tel 7 44 0).seq ≠ (tel 4 42 0).seq + 1 ∧ tel 7 44 0 ≠ tel 4 42 0 :=
  ⟨fun _ => delivers _ _, .inl rfl, by simp [Faulty, tel], by decide, by decide, by decide⟩

/-- R41's worked values, expected sequence 6 and G 3: gaps 7 to 1, break 2 and 3, copies 5 and 4. -/
theorem witness_telegramClassification :
    (3 : Nat) ≤ 5 ∧ (7 : BitVec 3) = 6 + BitVec.ofNat 3 1 ∧ (1 : BitVec 3) = 6 + BitVec.ofNat 3 3 ∧
      (2 : BitVec 3) = 6 + BitVec.ofNat 3 4 ∧ (3 : BitVec 3) = 6 + BitVec.ofNat 3 5 ∧ (5 : BitVec 3) = 6 - 1 ∧
      (4 : BitVec 3) = 6 - 2 := by
  decide

/-- Expected sequence 5, baseline 42: a sum at the limit 4 × 1, and one at 4 × 3 after a gap of 2. -/
theorem witness_telegramAccepted :
    (∀ t, Delivers (delivering synced t) 0 ⟨2, t⟩ [] cfg2 ∧ ((delivering synced t).point 2).mode = synced) ∧
      (classify 5 5 2 (tel 4 42 0) (some (tel 3 40 0)) = .normal ∧ (45 - 42 : Byte).toNat + (1 - 0 : Byte).toNat = 4) ∧
      (classify 7 5 2 (tel 4 42 0) (some (tel 3 40 0)) = .gap 2 ∧
        (54 - 42 : Byte).toNat + (0 - 0 : Byte).toNat = 12) ∧
      (tel 5 45 1).restart = false ∧ ¬ Faulty (tel 5 45 1) :=
  ⟨fun _ => delivers _ _, by decide, by decide, rfl, by simp [Faulty, tel]⟩

theorem witness_telegramCopy :
    (∀ t, Delivers (delivering synced t) 0 ⟨2, t⟩ [] cfg2 ∧ ((delivering synced t).point 2).mode = synced) ∧
      classify 4 5 2 (tel 4 42 0) (some (tel 3 40 0)) = .copy (tel 4 42 0) ∧
      classify 3 5 2 (tel 4 42 0) (some (tel 3 40 0)) = .copy (tel 3 40 0) ∧ tel 3 41 0 ≠ tel 3 40 0 :=
  ⟨fun _ => delivers _ _, by decide, by decide, by decide⟩

theorem witness_telegramDeparts :
    (∀ t, Delivers (delivering synced t) 0 ⟨2, t⟩ [] cfg2 ∧ ((delivering synced t).point 2).mode = synced) ∧
      (∀ o, classify 5 5 2 (tel 4 42 0) (some (tel 3 40 0)) ≠ .copy o) ∧
      ({ tel 5 44 0 with restart := true } : Telegram).restart = true ∧ Faulty faulty ∧
      classify 0 5 2 (tel 4 42 0) (some (tel 3 40 0)) = .break ∧
      4 < (46 - 42 : Byte).toNat + (1 - 0 : Byte).toNat ∧
      classify 7 5 2 (tel 4 42 0) (some (tel 3 40 0)) = .gap 2 ∧
      4 * (2 + 1) < (55 - 42 : Byte).toNat + (0 - 0 : Byte).toNat := by
  refine ⟨fun _ => delivers _ _, fun o h => ?_, rfl, .inl rfl, by decide, by decide, by decide, by decide⟩
  have : classify 5 5 2 (tel 4 42 0) (some (tel 3 40 0)) = .normal := by decide
  rw [this] at h
  cases h

/-- DP 2's departure with a transaction open for section 0, which is DISTURBED, and section 5 CLEAR; on a telegram with
a head fault, on one without, and on silence. -/
theorem witness_departureEffect :
    let s := (withTxn txn6 disturbedPlan).setSec 5 (sectionIn .b .clear 0)
    TxnSound s ∧ cfg2.sideA ≠ cfg2.sideB ∧ 0 ∈ cfg2.sideA.toList ++ cfg2.sideB.toList ∧
      1 ∉ cfg2.sideA.toList ++ cfg2.sideB.toList ∧ openFor s 0 = [txn6] ∧ openFor s 5 = [] ∧
      disturbanceRecord .sequence s 0 = none ∧
      disturbanceRecord .sequence s 5 = some (.state 5 .clear .disturbed (some .sequence) 0) ∧
      (leftSync .sequence (some faulty) (dp2 synced)).mode = .faulted ∧
      (leftSync .sequence (some (tel 0 50 0)) (dp2 synced)).mode = .pending (tel 0 50 0) ∧
      (leftSync .pointLost none (dp2 synced)).mode = .lost := by
  refine ⟨txnSound_one (u := txn6) ?_ ?_ ?_ ?_ rfl fun _ => rfl, ?_⟩
  all_goals decide +kernel

theorem witness_pointSilenceExpires :
    ∀ m ∈ [synced, PointMode.pending (tel 4 42 0), .faulted],
      let s := running.setPoint 2 { dp2 m with silence := some 0 }
      InService s ∧ (s.point 2).cfg = some cfg2 ∧ (s.point 2).silence = some 0 ∧
        ((s.point 2).mode.name = .inSync ∨ (s.point 2).mode.name = .pending ∨ (s.point 2).mode.name = .faulted) := by
  simp only [InService]
  decide +kernel

theorem witness_plausibilityTest :
    (1 : Nat) ≤ 1 ∧ (1 : Nat) ≤ 15 ∧ (15 : Nat) ≤ 15 ∧ (5 : Nat) ≤ 5 ∧ (1 : Nat) ≤ 90 ∧ (90 : Nat) ≤ 90 := by decide

/-! Counting. -/

/-- A hand-off of DP 2 at a stage, between CLEAR and OCCUPIED sections. -/
def handingOff (dAB dBA : Byte) (g : HandOffStage) : State :=
  { between .clear .occupied 0 9 with handOff := some ⟨2, dAB, dBA, 0, 7, false, false, false, false, g⟩ }

theorem witness_handOffSteps :
    (∀ g ∈ [HandOffStage.waiting, .recorded, .appliedA, .appliedB],
      InService (handingOff 1 0 g) ∧
        (handingOff 1 0 g).handOff = some ⟨2, 1, 0, 0, 7, false, false, false, false, g⟩) ∧
      ((handingOff 1 0 .recorded).point 2).cfg.bind PointCfg.sideA = some 0 ∧
      ((handingOff 1 0 .recorded).point 2).cfg.bind PointCfg.sideB = some 5 ∧
      ((handingOff 1 0 .recorded).point 3).cfg.bind PointCfg.sideA = none ∧ 0 < (1 : Byte).toNat + (0 : Byte).toNat ∧
      ¬ 0 < (0 : Byte).toNat + (0 : Byte).toNat := by
  simp only [InService]
  decide +kernel

theorem witness_activityReport :
    TxnSound (withTxn txn6 disturbedPlan) ∧ (withTxn txn6 disturbedPlan).slot 0 = some txn6 ∧
      txn6.kind = .direct ∧ [0] = [txn6.sec] ∧ [(0 : SectionId), 5].Nodup ∧
      ([(0 : SectionId), 5].flatMap (openFor (withTxn txn6 disturbedPlan))).filter (fun u => u.kind == .direct) =
        [txn6] ∧ TxnSound disturbedPlan ∧
      (∀ k u, disturbedPlan.slot k = some u → ¬ (u.kind = .direct ∧ u.sec ∈ [(0 : SectionId)])) :=
  ⟨withTxn_sound rfl rfl fun _ => rfl, by decide +kernel, rfl, rfl, by decide, by decide +kernel, disturbedPlan_sound,
    no_transaction disturbedPlan_slots⟩

/-- Results −1, 0, 2047 and 2048 at a section with net 9. -/
theorem witness_applicationCounts :
    ((between .clear .occupied 0 9).sec 5).mode ≠ .unused ∧
      [(((between .clear .occupied 0 9).sec 5).net : Int) + 0 - 10,
        (((between .clear .occupied 0 9).sec 5).net : Int) + 0 - 9,
        (((between .clear .occupied 0 9).sec 5).net : Int) + 2038 - 0,
        (((between .clear .occupied 0 9).sec 5).net : Int) + 2039 - 0] = [-1, 0, 2047, 2048] := by
  decide +kernel

theorem witness_sectionStateLogic :
    (∀ m ∈ [SectionMode.clear, .occupied, .clearing 5, .prepared, .sweeping, .disturbed .start],
      ((between m .clear 0 0).sec 0).cfg = some ⟨true, true, 200⟩ ∧ ((between m .clear 0 0).sec 0).mode = m ∧
        m ≠ .unused) ∧
      ((applySection 0 0 0 (between .occupied .clear 0 0)).sec 0).net = 0 ∧
      ((applySection 0 0 0 (between .occupied .clear 0 0)).sec 0).passage = false ∧
      ((applySection 0 1 0 (between .occupied .clear 0 0)).sec 0).net ≠ 0 := by
  decide +kernel

/-- Three axles cross DP 2 from section 0, which holds three, into section 5, which ends at 2047. -/
theorem witness_handOffConservesAxles :
    let s := { between .occupied .occupied 3 2044 with
      handOff := some ⟨2, 3, 0, 0, 7, false, false, false, false, .waiting⟩ }
    InService s ∧ (s.point 2).cfg = some cfg2 ∧ cfg2.sideA = some 0 ∧ cfg2.sideB = some 5 ∧ (0 : SectionId) ≠ 5 ∧
      (s.sec 0).mode ≠ .unused ∧ (s.sec 5).mode ≠ .unused ∧
      (3 : Byte).toNat ≤ (s.sec 0).net + (0 : Byte).toNat ∧ (s.sec 0).net + (0 : Byte).toNat ≤ 2047 + (3 : Byte).toNat ∧
      (0 : Byte).toNat ≤ (s.sec 5).net + (3 : Byte).toNat ∧
      (s.sec 5).net + (3 : Byte).toNat ≤ 2047 + (0 : Byte).toNat := by
  simp only [InService]
  decide +kernel

theorem witness_clearingTimerExpires :
    InService (between .clear (.clearing 0) 0 0) ∧ ((between .clear (.clearing 0) 0 0).sec 5).mode = .clearing 0 := by
  simp only [InService]
  decide +kernel

/-! Requests about resets. -/

/-- Section numbers 23 and 24, settings 1 and 2, an unused section, and an open transaction. -/
theorem witness_setInhibitOutcome :
    (∀ r, Takes (asking .ixa r (withTxn txn6 disturbedPlan)) .ixa r [] .low .recorder) ∧
      TxnSound (asking .ixa ⟨.setInhibit, 1, [24, 1]⟩ (withTxn txn6 disturbedPlan)) ∧
      (asking .ixa ⟨.setInhibit, 1, [24, 1]⟩ (withTxn txn6 disturbedPlan)).part = .running ∧
      24 ≤ ((Request.mk .setInhibit 1 [24, 1]).byte 0).toNat ∧ 2 ≤ ((Request.mk .setInhibit 1 [0, 2]).byte 1).toNat ∧
      ((withTxn txn6 disturbedPlan).sec 23).mode = .unused ∧ ((withTxn txn6 disturbedPlan).sec 0).mode ≠ .unused ∧
      ((withTxn txn6 disturbedPlan).sec 0).inhibitA = false ∧
      (withTxn txn6 disturbedPlan).slot 0 = some txn6 ∧ txn6.sec.val = ((Request.mk .setInhibit 1 [0, 1]).byte 0).toNat := by
  have hs : TxnSound (withTxn txn6 disturbedPlan) := withTxn_sound rfl rfl fun _ => rfl
  refine ⟨fun r => takes_asking _ r ready_states.2.2, ⟨hs.1, hs.2, hs.3, hs.4, hs.5, hs.6, hs.7⟩, ?_⟩
  decide +kernel

/-- MNT proposes DIRECT for section 0: every check passes. -/
theorem witness_proposalOpens :
    let r : Request := ⟨.proposeReset, 1, [0, 2]⟩
    let s := asking .mnt r disturbedPlan
    Takes s .mnt r [] .low .recorder ∧ s.part = .running ∧ (r.byte 0).toNat = (0 : SectionId).val ∧ r.byte 1 = 2 ∧
      (s.sec 0).permits .direct = true ∧ (s.sec 0).mode.name = .disturbed ∧ Uninhibited s 0 ∧
      (∀ k u, s.slot k = some u → u.sec ≠ 0) ∧ BoundaryInSync s 0 ∧ BoundaryFree s 0 ∧ openSlots s < s.commitLimit ∧
      s.commitLimit ≤ 4 := by
  refine ⟨takes_asking _ _ ready_states.2.1, rfl, by decide, by decide, by decide +kernel, by decide +kernel, ?_,
    no_transaction (s := disturbedPlan) disturbedPlan_slots, ?_, ?_, by decide +kernel, by decide +kernel⟩
  · simp only [Uninhibited]
    decide +kernel
  · simp only [BoundaryInSync]
    decide +kernel
  · simp only [BoundaryFree]
    decide +kernel

/-- For each check of R105 a state in which it is the first to fail: an unused section; a channel that asks for
DIRECT; a CLEAR section; an inhibit; an open transaction; a point outside IN_SYNC; a damped head; a full table. -/
theorem witness_proposalRefused :
    (∀ p r, Takes (asking p r disturbedPlan) p r [] .low .recorder) ∧ TxnSound disturbedPlan ∧
      24 ≤ ((Request.mk .proposeReset 1 [24, 1]).byte 0).toNat ∧ (Request.mk .proposeReset 1 [0, 3]).byte 1 ≠ 1 ∧
      (disturbedPlan.sec 23).mode = .unused ∧ (disturbedPlan.sec 0).permits .direct = true ∧
      ((between .clear .clear 0 0).sec 0).mode.name ≠ .disturbed ∧
      ¬ Uninhibited (disturbedPlan.setSec 0 { disturbedPlan.sec 0 with inhibitA := true }) 0 ∧
      (withTxn txn6 disturbedPlan).slot 0 = some txn6 ∧ TxnSound (withTxn txn6 disturbedPlan) ∧
      ¬ BoundaryInSync (disturbedPlan.setPoint 2 (dp2 .lost)) 0 ∧
      ¬ BoundaryFree (disturbedPlan.setPoint 2 { dp2 synced with h1 := true }) 0 ∧
      ¬ openSlots ({ disturbedPlan with commitLimit := 0 } : State) < 0 := by
  refine ⟨fun p r => takes_asking p r ready_states.2.1, disturbedPlan_sound, ?_⟩
  have hs : TxnSound (withTxn txn6 disturbedPlan) := withTxn_sound rfl rfl fun _ => rfl
  simp only [Uninhibited, BoundaryInSync, BoundaryFree, hs, true_and]
  decide +kernel

/-- Transaction 5 with IXA's confirmation, asked about by IXB: an unknown number, a wrong section, the completion. -/
theorem witness_confirmationOutcome :
    let u : Txn := ⟨5, 0, .preparatory, .ixa, true, false, 28000⟩
    let s := withTxn u disturbedPlan
    (∀ p r, Takes (asking p r s) p r [] .low .recorder) ∧ TxnSound s ∧ s.slot 0 = some u ∧
      (∀ k t, s.slot k = some t → t.number ≠ (Request.mk .confirmReset 1 [4, 0]).byte 0) ∧
      u.number = (Request.mk .confirmReset 1 [5, 1]).byte 0 ∧
      u.sec.val ≠ ((Request.mk .confirmReset 1 [5, 1]).byte 1).toNat ∧
      u.sec.val = ((Request.mk .confirmReset 1 [5, 0]).byte 1).toNat ∧ CheckPasses s u ∧
      ¬ CheckPasses (s.setPoint 2 (dp2 .lost)) u := by
  refine ⟨fun p r => takes_asking p r (by decide +kernel), withTxn_sound rfl rfl (by decide), by decide +kernel, ?_, ?_⟩
  · have : ∀ k, ∀ t ∈ (withTxn ⟨5, 0, .preparatory, .ixa, true, false, 28000⟩ disturbedPlan).slot k,
        t.number ≠ (Request.mk .confirmReset 1 [4, 0]).byte 0 := by decide +kernel
    intro k t hk
    exact this k t hk
  · simp only [CheckPasses, Uninhibited, BoundaryInSync, BoundaryFree]
    decide +kernel

theorem witness_leavesDisturbedOnlyByBothChannels :
    let s := asking .ixb ⟨.confirmReset, 1, [5, 0]⟩ (withTxn ⟨5, 0, .preparatory, .ixa, true, false, 28000⟩ disturbedPlan)
    exec .confirmReset s = .next (after .confirmReset s) ∧ (s.sec 0).mode.name = .disturbed ∧
      ((after .confirmReset s).sec 0).mode.name = .prepared := by
  refine ⟨rfl, ?_, ?_⟩ <;> decide +kernel

theorem witness_transactionEndings :
    (∀ p r, Takes (asking p r (withTxn txn6 disturbedPlan)) p r [] .low .recorder) ∧
      TxnSound (withTxn txn6 disturbedPlan) ∧ (withTxn txn6 disturbedPlan).slot 0 = some txn6 ∧
      txn6.number = (Request.mk .cancelReset 1 [6]).byte 0 ∧ txn6.number ≠ (Request.mk .cancelReset 1 [7]).byte 0 ∧
      txn6.proposer = .mnt ∧
      (let u : Txn := ⟨5, 0, .preparatory, .ixa, true, false, 0⟩
      InService (withTxn u disturbedPlan) ∧ (withTxn u disturbedPlan).slot 0 = some u ∧ u.window = 0 ∧
        u.proposer ≠ .mnt) := by
  refine ⟨fun p r => takes_asking p r ready_states.2.2, withTxn_sound rfl rfl fun _ => rfl, ?_⟩
  simp only [InService]
  decide +kernel

/-! The journal. -/

/-- Unread counts 512, 511, 0 and 1 on the four ports, the ring full. -/
theorem witness_appendAndSlip :
    let s := ((({ running with journal := { Journal.empty with writeSeq := 600, held := 512 } }.setWatch .ixa
      { Watch.cold with cursor := 88 }).setWatch .ixb { Watch.cold with cursor := 89 }).setWatch .mnt
      { Watch.cold with cursor := 600 }).setWatch .recorder { Watch.cold with cursor := 599 }
    s.unread .ixa = 512 ∧ s.unread .ixb = 511 ∧ s.unread .mnt = 0 ∧ s.unread .recorder = 1 ∧ s.journal.held = 512 ∧
      State.reset.journal.held < 512 := by
  decide +kernel

theorem journalSound_empty : JournalSound running := by
  refine ⟨by decide +kernel, ?_, ?_, ?_⟩
  · intro k hk
    exact absurd hk (by simp [running, State.reset, Journal.empty])
  · intro p
    cases p <;> decide +kernel
  · intro p
    cases p <;> decide +kernel

/-- One record, unread by every port. -/
theorem journalSound_one : JournalSound (append (.line 1 true) running) := by
  refine ⟨by decide +kernel, ?_, ?_, ?_⟩
  · intro k hk
    have h1 : (append (.line 1 true) running).journal.held = 1 := by decide +kernel
    obtain rfl : k = 0 := by omega
    exact ⟨⟨0, 0, .line 1 true⟩, by decide +kernel, by decide +kernel⟩
  · intro p
    cases p <;> decide +kernel
  · intro p
    cases p <;> decide +kernel

/-- An empty and a non-empty read; the seek payloads 0, 1 and 2. -/
theorem witness_journalRequests :
    (∀ p r, Takes (asking p r running) p r [] .low .recorder) ∧
      (∀ p r, Takes (asking p r (append (.line 1 true) running)) p r [] .low .recorder) ∧ JournalSound running ∧
      JournalSound (append (.line 1 true) running) ∧ running.unread .ixa = 0 ∧ (running.watch .ixa).slipCount = 0 ∧
      0 < (append (.line 1 true) running).unread .ixa ∧ 2 ≤ ((Request.mk .journalSeek 1 [2]).byte 0).toNat ∧
      ((Request.mk .journalSeek 1 [1]).byte 0).toNat < 2 := by
  refine ⟨fun p r => takes_asking p r ready_states.1, fun p r => takes_asking p r (by decide +kernel),
    journalSound_empty, journalSound_one, ?_⟩
  decide +kernel

theorem witness_dwellTimerExpires :
    let s := (append (.line 1 true) running).setWatch .ixb { Watch.cold with dwell := some 0 }
    let s0 := running.setWatch .ixb { Watch.cold with dwell := some 0 }
    s.resetLow = false ∧ (s.watch .ixb).dwell = some 0 ∧ 0 < s.unread .ixb ∧ (s0.watch .ixb).dwell = some 0 ∧
      s0.unread .ixb = 0 := by
  decide +kernel

theorem witness_journalOnlyAppends :
    exec (.loadEnd []) State.reset = .next (after (.loadEnd []) State.reset) ∧
      ∀ low, Instr.loadEnd [] ≠ .coldStart low :=
  ⟨rfl, fun _ => Instr.noConfusion⟩

/-! Master ports. -/

/-- A port in COLLECT with some bytes. -/
def collecting (bytes : List Byte) : State :=
  running.setPort .ixa { Port.cold with asm := ⟨.collect, bytes, some 4, false⟩ }

/-- In SEARCH; a third byte of 12 and of 13; the last byte but one of an empty payload's frame. -/
theorem witness_portCharacter :
    running.resetLow = false ∧ (running.port .ixa).asm.breakFlag = false ∧ (running.port .ixa).asm.state = .search ∧
      (∀ bytes ∈ [[], [7, 1], [7, 1, 0]],
        ((collecting bytes).port .ixa).asm.breakFlag = false ∧ ((collecting bytes).port .ixa).asm.state = .collect ∧
          ((collecting bytes).port .ixa).asm.held = bytes) ∧
      12 < (13 : Byte).toNat ∧ (12 : Byte).toNat ≤ 12 ∧
      3 < ([7, 1, 0] ++ [(0xFF : Byte)]).length ∧
      ([7, 1, 0] ++ [(0xFF : Byte)]).length < 5 + (byteAt ([7, 1, 0] ++ [(0xFF : Byte)]) 2).toNat := by
  decide +kernel

/-- A STATUS frame but its last byte, at port IXA in a given link state. -/
def frameAt (x : Port) (s : State) : State :=
  s.setPort .ixa { x with asm := (frameShort.port .ixa).asm }

/-- The good and the bad last byte; a frame of an unknown code; STARTING; a full port; room and no room. -/
theorem witness_portFrameHandled :
    (∀ x ∈ [Port.cold, { Port.cold with isolated := true }, { Port.cold with outstanding := 4 },
        { Port.cold with answers := List.replicate 8 (Answer.mk .immediate 1 .busy []) }],
      ∀ s ∈ [running, State.reset],
        (frameAt x s).resetLow = false ∧ ((frameAt x s).port .ixa).asm.breakFlag = false ∧
          ((frameAt x s).port .ixa).asm.state = .collect ∧
          (((frameAt x s).port .ixa).asm.held ++ [frameEnd]).length = 5 + 0 ∧
          byteAt (((frameAt x s).port .ixa).asm.held ++ [frameEnd]) 2 = 0) ∧
      crc16 (((frameShort.port .ixa).asm.held ++ [frameEnd]).take 3) =
        halfAt ((frameShort.port .ixa).asm.held ++ [frameEnd]) 3 ∧
      ¬ crc16 (((frameShort.port .ixa).asm.held ++ [frameEnd + 1]).take 3) =
        halfAt ((frameShort.port .ixa).asm.held ++ [frameEnd + 1]) 3 ∧
      (RequestKind.status, (0x01 : Byte), 0) ∈ requestCodes ∧
      (∀ e ∈ requestCodes, e.2 ≠ ((0x0D : Byte), 0) ∧ e.2 ≠ ((0x01 : Byte), 1)) ∧
      (RequestKind.rejoin, (0x0C : Byte), 0) ∈ requestCodes ∧ Room running .ixa ∧
      ¬ Room (running.setPort .ixa
        { Port.cold with answers := List.replicate 8 (Answer.mk .immediate 1 .busy []) }) .ixa := by
  simp only [Room]
  decide +kernel

theorem witness_portLineEvents :
    running.resetLow = false ∧ (running.port .ixa).asm.breakFlag = false ∧
      ((running.setPort .ixa { Port.cold with asm := ⟨.collect, [1], some 0, false⟩ }).port .ixa).asm.gap = some 0 ∧
      ((running.setPort .ixa { Port.cold with asm := ⟨.search, [], none, true⟩ }).port .ixa).asm.breakFlag = true := by
  decide +kernel

theorem witness_answerSentFreesSlot :
    (restarting.setPort .ixa { Port.cold with answers := [⟨.served, 1, .ok, []⟩], outstanding := 1 }).resetLow = false ∧
      ((restarting.setPort .ixa { Port.cold with answers := [⟨.served, 1, .ok, []⟩], outstanding := 1 }).port
        .ixa).answers = [⟨.served, 1, .ok, []⟩] ∧ (PortId.ixa ≠ .mnt) := by
  decide +kernel

theorem witness_answerFrameBytes : (Answer.mk .served 1 .ok (List.replicate 64 0)).payload.length ≤ 64 := by
  simp

/-! Requests. -/

/-- REC asks for a proposal, IXA for RESTART; in UNCONFIGURED, REC for SUMMARY. -/
theorem witness_rightsThenPartState :
    (∀ p r, Takes (asking p r running) p r [] .low .recorder) ∧
      (∀ p r, Takes (asking p r { State.reset with part := .unconfigured }) p r [] .low .recorder) ∧
      Forbidden .recorder .proposeReset ∧ Forbidden .ixa .restart ∧ ¬ Forbidden .recorder .summary ∧
      ¬ NeedsNoConfiguration .summary ∧ commandOf .summary = some .summary ∧
      commandOf .proposeReset = some .proposeReset := by
  refine ⟨fun p r => takes_asking p r ready_states.1, fun p r => takes_asking p r (by decide +kernel), ?_⟩
  simp only [Forbidden, NeedsNoConfiguration]
  decide

theorem witness_statusAndSummary :
    Takes (asking .ixa ⟨.status, 1, []⟩ running) .ixa ⟨.status, 1, []⟩ [] .low .recorder ∧
      Takes (asking .ixa ⟨.summary, 1, []⟩ running) .ixa ⟨.summary, 1, []⟩ [] .low .recorder ∧
      (asking .ixa ⟨.summary, 1, []⟩ running).part = .running :=
  ⟨takes_asking _ _ ready_states.1, takes_asking _ _ ready_states.1, rfl⟩

/-- The last number in range and the first beyond it, for each record. -/
theorem witness_recordReads :
    (∀ p r, Takes (asking p r disturbedPlan) p r [] .low .recorder) ∧ disturbedPlan.part = .running ∧
      (23 : SectionId).val = ((Request.mk .readSection 1 [23]).byte 0).toNat ∧
      24 ≤ ((Request.mk .readSection 1 [24]).byte 0).toNat ∧
      (31 : PointId).val = ((Request.mk .readPoint 1 [31]).byte 0).toNat ∧
      32 ≤ ((Request.mk .readPoint 1 [32]).byte 0).toNat ∧
      (3 : LineId).val = ((Request.mk .readLine 1 [3]).byte 0).toNat ∧
      4 ≤ ((Request.mk .readLine 1 [4]).byte 0).toNat := by
  refine ⟨fun p r => takes_asking p r ready_states.2.1, ?_⟩
  decide +kernel

theorem witness_viewRequests :
    (∀ p r, Takes (asking p r disturbedPlan) p r [] .low .recorder) ∧ disturbedPlan.part = .running ∧
      ((Request.mk .selectView 1 [2]).byte 0).toNat < 3 ∧ 3 ≤ ((Request.mk .selectView 1 [3]).byte 0).toNat ∧
      ((asking .ixa ⟨.readNext, 1, []⟩ disturbedPlan).port .ixa).view = .sections ∧
      (0 : SectionId).val = ((asking .ixa ⟨.readNext, 1, []⟩ disturbedPlan).port .ixa).viewCursor := by
  refine ⟨fun p r => takes_asking p r ready_states.2.1, ?_⟩
  decide +kernel

theorem witness_identifyAndSetMask :
    ∀ p r, Takes (asking p r running) p r [] .low .recorder := fun p r => takes_asking p r ready_states.1

theorem witness_clearStatisticsAndRestart :
    (∀ r, Takes (asking .mnt r running) .mnt r [] .low .recorder) ∧ running.part = .running ∧
      commandOf .status = some .status ∧ restarting.restartServed = true ∧ State.reset.part = .starting ∧
      ∃ h, (handingOff 1 0 .recorded).handOff = some h ∧ h.stage ≠ .waiting :=
  ⟨fun r => takes_asking _ r ready_states.1, rfl, rfl, rfl, rfl, _, rfl, by decide⟩

/-- Every port asks, with pointers in every place. -/
def busy (one : RingOne) (two : RingTwo) : State :=
  { running with
    arbOne := one
    arbTwo := two
    ports := Vector.replicate 4 { Port.cold with queue := [⟨.status, 1, []⟩], outstanding := 1 } }

/-- Three successive choices of R160 with every port asking; two LOW turns; and FIXED mode. -/
theorem witness_arbiterChoice :
    (busy .ixa .mnt).arbMode = .rotate ∧
    choose (busy .ixa .mnt) = some (.ixb, .ixb, .mnt) ∧ choose (busy .ixb .mnt) = some (.recorder, .low, .recorder) ∧
      choose (busy .low .recorder) = some (.ixa, .ixa, .recorder) ∧
      choose (busy .ixb .recorder) = some (.mnt, .low, .mnt) ∧ ((busy .ixa .mnt).port .mnt).queue ≠ [] ∧
      ({ busy .ixa .mnt with arbMode := .fixed } : State).arbMode = .fixed := by
  decide +kernel

/-! Invariants: a state that is not the reset state, a command that waits, and its next state. -/

/-- DP 2 IN_SYNC between a CLEAR and a DISTURBED section with an open transaction, one millisecond due. -/
def ticking : State :=
  { withTxn ⟨5, 5, .preparatory, .ixa, true, false, 28000⟩
      ((between .clear (.disturbed .start) 0 0).setSlot 3 none) with
    pending := [.timeBaseMillisecond] }

theorem step_ticking : ∃ t, step ticking = .next t := ⟨_, rfl⟩

theorem witness_attentionKept : AttentionSound ticking ∧ ∃ t, step ticking = .next t := by
  refine ⟨fun p => ?_, step_ticking⟩
  simp only [UnmaskedCause]
  cases p <;> decide +kernel

/-- An ISOLATED port, and an ACTIVE one with an unmasked latch, with their lines asserted. -/
theorem witness_attentionKept_asserted :
    let s := settle ((running.setPort .mnt { Port.cold with isolated := true }).setWatch .ixb
      { Watch.cold with latchDwell := true, mask := 0b10000 })
    AttentionSound s ∧ s.attn .mnt = true ∧ s.attn .ixb = true ∧ s.attn .ixa = false := by
  refine ⟨fun p => ?_, ?_⟩
  · simp only [UnmaskedCause]
    cases p <;> decide +kernel
  · decide +kernel

theorem witness_journalKept : JournalSound { running with pending := [.status] } ∧
    step { running with pending := [.status] } = .next running :=
  ⟨⟨journalSound_empty.1, journalSound_empty.2, journalSound_empty.3, journalSound_empty.4⟩, rfl⟩

theorem witness_portsKept : PortsSound ticking ∧ ∃ t, step ticking = .next t := by
  refine ⟨fun p => ?_, step_ticking⟩
  cases p <;> constructor <;> decide +kernel

theorem witness_receptionKept : ReceptionSound ticking ∧ ∃ t, step ticking = .next t := by
  have held : ∀ p, (ticking.port p).asm.held.length = 0 := by
    intro p
    cases p <;> decide +kernel
  refine ⟨⟨fun l => ?_, fun p => ?_, fun p h => absurd h (by rw [held p]; decide)⟩, step_ticking⟩
  · have : ticking.line l = Line.cold := by revert l; decide +kernel
    rw [this]
    constructor <;> first | decide | (constructor <;> decide)
  · have : (ticking.port p).asm = .idle := by cases p <;> decide +kernel
    rw [this]
    constructor <;> decide

/-- DP 2 IN_SYNC with its history, its baseline and a running timer. -/
theorem pointSound_dp2 : PointSound (dp2 synced) ∧ ticking.point 2 = dp2 synced := by
  refine ⟨⟨?_, ?_, ?_, by decide⟩, by decide +kernel⟩
  · simp only [dp2, Option.some.injEq, forall_eq']
    decide
  · simp only [dp2, Option.some.injEq, forall_eq']
    decide
  · simp only [PointHolds, dp2, synced, Option.some.injEq, forall_eq', Point.cold]
    decide

theorem ticking_points : ∀ d, d ≠ 2 → ticking.point d = Point.cold := by decide +kernel

theorem witness_pointsKept : PointsSound ticking ∧ ∃ t, step ticking = .next t := by
  refine ⟨fun d => ?_, step_ticking⟩
  by_cases h : d = 2
  · subst h
    rw [pointSound_dp2.2]
    exact pointSound_dp2.1
  · rw [ticking_points d h]
    exact ⟨fun c hc => (nomatch hc), fun c hc => (nomatch hc), trivial, by decide⟩

theorem witness_sectionsKept : SectionsSound ticking ∧ ∃ t, step ticking = .next t := by
  refine ⟨fun n => ?_, step_ticking⟩
  constructor <;> revert n <;> decide +kernel

theorem planSound_ticking : PlanSound ticking := by
  have : ∀ n, ∀ b ∈ (ticking.sec n).boundary, (ticking.point b.point).cfg = some cfg2 ∧ n ∈ cfg2.adjacent := by
    decide +kernel
  exact fun n b hb => ⟨cfg2, this n b hb⟩

theorem witness_syncKept : SyncSound ticking ∧ ∃ t, step ticking = .next t :=
  ⟨⟨planSound_ticking, by decide +kernel⟩, step_ticking⟩

theorem witness_passageKept : PassageSound ticking ∧ ∃ t, step ticking = .next t := by
  refine ⟨⟨planSound_ticking, fun n _ => .inl ?_⟩, step_ticking⟩
  revert n
  decide +kernel

theorem witness_transactionsKept : TxnSound ticking ∧ ∃ t, step ticking = .next t :=
  ⟨txnSound_one (u := ⟨5, 5, .preparatory, .ixa, true, false, 28000⟩) (by decide +kernel) (by decide +kernel)
    (by decide +kernel) (by decide +kernel) rfl (by decide), step_ticking⟩

end Sys2Proof.Tests
end

section
/-! Proofs: the form of every command, and the attention lines (R177). -/

namespace Sys2Proof.Proofs

open Sys2Proof.Machine Sys2Proof.Safety Sys2Proof.Claims

/-! ### A step and a command, taken apart -/

/-- A step either finds no command and idles, or carries out the front command on the part with the queue's rest. -/
theorem step_next_cases {s t : State} (h : step s = .next t) :
    t = s ∨ ∃ c rest, exec c { s with pending := rest } = .next t := by
  unfold step at h
  split at h
  · exact .inl (Host.Outcome.next.inj h).symm
  · exact .inr ⟨_, _, h⟩

/-- Every command is an event: a condition on the state, and an effect where the condition holds. -/
theorem exec_eq_event (c : Instr) (s : State) : ∃ can eff, exec c s = event can eff s := by
  cases c <;>
    dsimp only [exec, execResetInputLow, execTrkFramingError, execTrkBreak, execTrkBreakEnd, execTrkGapTimeout,
      execLineSilenceExpiry, execDwellTimerExpiry, execPortBreakEnd] <;>
    exact ⟨_, _, rfl⟩

/-- What every command keeps, whatever commands wait, every step keeps. -/
theorem step_keeps {P : State → Prop} (queue : ∀ s rest, P s → P { s with pending := rest })
    (keeps : ∀ c s t, P s → exec c s = .next t → P t) (s t : State) (hs : P s) (h : step s = .next t) : P t := by
  obtain rfl | ⟨c, rest, hc⟩ := step_next_cases h
  · exact hs
  · exact keeps c _ t (queue s rest hs) hc

/-! ### The attention lines -/

/-- Lines that have just been decided stand as R177 says. -/
theorem settle_attentionSound (s : State) : AttentionSound (settle s) := fun p => by
  rw [settle_attn, attentionOf_eq_true, pendingCauses_and_ne_zero]
  rfl

theorem settled_settle (u : State) : Settled (settle u) u := ⟨rfl, settle_attentionSound u⟩

/-- An event that can take place answers its effect with the attention lines decided again. -/
theorem settled_event {can : Bool} {eff : State → State} {s u : State} (hcan : can = true) (hu : eff s = u) :
    ∃ t, event can eff s = .next t ∧ Settled t u := by
  subst hcan hu
  exact ⟨_, rfl, settled_settle _⟩

theorem exec_keeps_attention (c : Instr) (s t : State) (hs : AttentionSound s) (h : exec c s = .next t) :
    AttentionSound t := by
  obtain ⟨can, eff, e⟩ := exec_eq_event c s
  obtain ⟨-, rfl⟩ | ⟨-, rfl⟩ := event_next (e ▸ h)
  · exact settle_attentionSound _
  · exact hs

/-- Settles O52: a command either decides the lines again or leaves the whole state alone. -/
theorem attentionKept : Obligations.AttentionKept := by
  unfold Obligations.AttentionKept
  exact step_keeps (fun _ _ h => h) exec_keeps_attention

end Sys2Proof.Proofs
end

section
/-! Proofs: what the commands can do to the points, the sections, the transaction slots and the hand-off. One inversion
lemma for all commands, `exec_moves`, from which each invariant of these blocks is a case analysis over `BlockMove`. -/

namespace Sys2Proof.Proofs

open Sys2Proof.Machine Sys2Proof.Safety Sys2Proof.Claims

/-- `t` has the points, the hand-off, the sections, the transaction slots and the commitment limit of `s`. -/
structure SameBlocks (s t : State) : Prop where
  points : t.points = s.points
  handOff : t.handOff = s.handOff
  sections : t.sections = s.sections
  slots : t.slots = s.slots
  commitLimit : t.commitLimit = s.commitLimit

namespace SameBlocks

variable {s t u : State}

theorem refl (s : State) : SameBlocks s s := ⟨rfl, rfl, rfl, rfl, rfl⟩

theorem trans (h : SameBlocks s t) (g : SameBlocks t u) : SameBlocks s u :=
  ⟨g.points.trans h.points, g.handOff.trans h.handOff, g.sections.trans h.sections, g.slots.trans h.slots,
    g.commitLimit.trans h.commitLimit⟩

theorem ofJournal (h : OnlyJournal s t) : SameBlocks s t := ⟨h.points, h.handOff, h.sections, h.slots, h.commitLimit⟩
theorem ofLines (h : OnlyLines s t) : SameBlocks s t := ⟨h.points, h.handOff, h.sections, h.slots, h.commitLimit⟩
theorem ofPorts (h : OnlyPorts s t) : SameBlocks s t := ⟨h.points, h.handOff, h.sections, h.slots, h.commitLimit⟩

theorem point (h : SameBlocks s t) (d : PointId) : t.point d = s.point d := by simp only [State.point, h.points]
theorem sec (h : SameBlocks s t) (n : SectionId) : t.sec n = s.sec n := by simp only [State.sec, h.sections]
theorem slot (h : SameBlocks s t) (k : SlotId) : t.slot k = s.slot k := by simp only [State.slot, h.slots]

end SameBlocks

/-- What one command can do to these blocks, with what it has checked before. -/
inductive BlockMove (s : State) : State → Prop where
  | stay : BlockMove s s
  | coldStart (low : PortLevels) : BlockMove s (coldStart low s)
  | endLoad (image : List Byte) : BlockMove s (endLoad image s)
  | restartSent : BlockMove s (restartSent s)
  | tick : BlockMove s (tick s)
  | clearStats : BlockMove s (clearAllStats s)
  | takeDelivery (l : LineId) (idle : s.handOff = none) : BlockMove s (takeDelivery l s)
  | pointSilent (d : PointId) (due : (s.point d).silence = some 0) : BlockMove s (pointSilent d s)
  | handOffOnce : BlockMove s (handOffOnce s)
  | handOffAll : BlockMove s (handOffAll s)
  | cleared (n : SectionId) (due : (s.sec n).mode = .clearing 0) :
      BlockMove s (putSection n (s.sec n).mode { s.sec n with mode := .clear } s)
  | inhibited (p : PortId) (n : SectionId) (on : Bool) : BlockMove s (setInhibitFlag p n on s)
  | opened (p : PortId) (n : SectionId) (kind : ResetKind) (k : SlotId) (direct : kind = .direct → p = .mnt)
      (disturbed : (s.sec n).isDisturbed = true) (alone : txnOfSection n s = none)
      (room : openSlots s < s.commitLimit) (free : freeSlot s = some k) : BlockMove s (openTransaction p n kind k s)
  | ended (e : ResetEvent) (k : SlotId) (t : Txn) (opened : s.slot k = some t) : BlockMove s (endTxn e k t s)
  | confirmed (p : PortId) (k : SlotId) (t : Txn) (opened : s.slot k = some t)
      (half : ((t.confirm p).byIxa && (t.confirm p).byIxb) = false) : BlockMove s (addConfirmation p k t s)
  | notReady (p : PortId) (k : SlotId) (t : Txn) (opened : s.slot k = some t) :
      BlockMove s (endTxn (.cancelled .notReady) k (t.confirm p) (addConfirmation p k t s))
  | completed (p : PortId) (k : SlotId) (t : Txn) (opened : s.slot k = some t)
      (checked : completionCheck (t.confirm p) (addConfirmation p k t s) = true) :
      BlockMove s (completeTxn k (t.confirm p) (addConfirmation p k t s))

/-- One move of the blocks, between changes that leave the blocks alone. -/
def MovesTo (s t : State) : Prop := ∃ s₁ t₁, SameBlocks s s₁ ∧ BlockMove s₁ t₁ ∧ SameBlocks t₁ t

namespace MovesTo

variable {s t u : State}

theorem move (h : BlockMove s t) : MovesTo s t := ⟨s, t, .refl s, h, .refl t⟩

theorem same (h : SameBlocks s t) : MovesTo s t := ⟨s, s, .refl s, .stay, h⟩

theorem after (h : SameBlocks s t) (g : MovesTo t u) : MovesTo s u := by
  obtain ⟨s₁, t₁, hs, hm, ht⟩ := g
  exact ⟨s₁, t₁, h.trans hs, hm, ht⟩

theorem thenSame (h : MovesTo s t) (g : SameBlocks t u) : MovesTo s u := by
  obtain ⟨s₁, t₁, hs, hm, ht⟩ := h
  exact ⟨s₁, t₁, hs, hm, ht.trans g⟩

/-- What every move keeps, every command keeps that comes to moves of the blocks. -/
theorem keeps {P : State → Prop} (same : ∀ s t, SameBlocks s t → P s → P t) (moves : ∀ s t, BlockMove s t → P s → P t)
    (h : MovesTo s t) (hs : P s) : P t := by
  obtain ⟨s₁, t₁, hs₁, hm, ht⟩ := h
  exact same _ _ ht (moves _ _ hm (same _ _ hs₁ hs))

end MovesTo

/-! ### Events and requests -/

theorem event_movesTo {can : Bool} {eff : State → State} {s t : State} (h : event can eff s = .next t)
    (moves : can = true → MovesTo s (eff s)) : MovesTo s t := by
  obtain ⟨hcan, rfl⟩ | ⟨-, rfl⟩ := event_next h
  · exact (moves hcan).thenSame ⟨rfl, rfl, rfl, rfl, rfl⟩
  · exact .same (.refl _)

/-- Taking a request and placing an answer are no moves: a served request moves the blocks as its rule does. -/
theorem takeAndServe_movesTo {rule : PortId → Request → State → Reply}
    (moves : ∀ p r s, MovesTo s (rule p r s).state) (s : State) : MovesTo s (takeAndServe rule s) := by
  unfold takeAndServe
  split
  · rename_i p r one two _
    have taken : SameBlocks s (takeRequest p one two s) := ⟨rfl, rfl, rfl, rfl, rfl⟩
    refine .after taken (.thenSame ?_ (.ofPorts (placeAnswer_only _ _ _)))
    unfold examine
    split
    · split
      · exact .same (.refl _)
      · exact moves _ _ _
    · exact .same (.refl _)
  · exact .same (.refl _)

theorem engineStep_movesTo {kind : RequestKind} {rule : PortId → Request → State → Reply} {s t : State}
    (h : engineStep kind rule s = .next t) (moves : ∀ p r s, MovesTo s (rule p r s).state) : MovesTo s t :=
  event_movesTo h fun _ => takeAndServe_movesTo moves s

/-! ### The rules of the requests -/

theorem readSectionRule_same (p : PortId) (r : Request) (s : State) : SameBlocks s (readSectionRule p r s).state := by
  unfold readSectionRule; split <;> exact .refl s

theorem readPointRule_same (p : PortId) (r : Request) (s : State) : SameBlocks s (readPointRule p r s).state := by
  unfold readPointRule; split <;> exact .refl s

theorem readLineRule_same (p : PortId) (r : Request) (s : State) : SameBlocks s (readLineRule p r s).state := by
  unfold readLineRule; split <;> exact .refl s

theorem selectViewRule_same (p : PortId) (r : Request) (s : State) : SameBlocks s (selectViewRule p r s).state := by
  unfold selectViewRule
  split
  · exact .ofPorts (setPort_only _ _ _)
  · exact .refl s

theorem journalReadRule_same (p : PortId) (r : Request) (s : State) : SameBlocks s (journalReadRule p r s).state := by
  unfold journalReadRule
  dsimp only
  split <;> exact .ofJournal (setWatch_only _ _ _)

theorem journalSeekRule_same (p : PortId) (r : Request) (s : State) : SameBlocks s (journalSeekRule p r s).state := by
  unfold journalSeekRule
  split
  · exact .refl s
  · exact .ofJournal (setWatch_only _ _ _)

theorem setInhibitRule_movesTo (p : PortId) (r : Request) (s : State) : MovesTo s (setInhibitRule p r s).state := by
  unfold setInhibitRule
  repeat' split
  case h_2.isFalse.isFalse => exact .move (.inhibited _ _ _)
  all_goals exact .same (.refl s)

theorem proposeResetRule_movesTo (p : PortId) (r : Request) (s : State) :
    MovesTo s (proposeResetRule p r s).state := by
  unfold proposeResetRule
  split
  · rename_i n kind _ _
    unfold proposeChecked
    dsimp only
    split
    · exact .same (.refl s)
    split
    · exact .same (.refl s)
    rename_i direct
    split
    · exact .same (.refl s)
    rename_i disturbed
    split
    · exact .same (.refl s)
    split
    · exact .same (.refl s)
    rename_i alone
    split
    · exact .same (.refl s)
    split
    · exact .same (.refl s)
    split
    · exact .same (.refl s)
    rename_i room
    split
    · exact .same (.refl s)
    rename_i k free
    exact .move (.opened p n kind k (fun hk => Classical.not_not.mp fun hp => direct ⟨hk, hp⟩)
      (by simpa using disturbed) alone (Nat.lt_of_not_le room) free)
  · exact .same (.refl s)
  · exact .same (.refl s)

theorem confirmResetRule_movesTo (p : PortId) (r : Request) (s : State) :
    MovesTo s (confirmResetRule p r s).state := by
  unfold confirmResetRule
  split
  · exact .same (.refl s)
  · rename_i k t found
    have opened := (findTxn_some found).1
    dsimp only
    split
    · exact .move (.ended _ _ _ opened)
    split
    · exact .same (.refl s)
    split
    · split
      · rename_i checked
        exact .move (.completed _ _ _ opened checked)
      · exact .move (.notReady _ _ _ opened)
    · rename_i half
      exact .move (.confirmed _ _ _ opened (by simpa using half))

theorem cancelResetRule_movesTo (p : PortId) (r : Request) (s : State) : MovesTo s (cancelResetRule p r s).state := by
  unfold cancelResetRule
  split
  · exact .same (.refl s)
  · rename_i k t found
    split
    · exact .same (.refl s)
    · exact .move (.ended _ _ _ (findTxn_some found).1)

/-! ### Every command -/

theorem expireTxn_movesTo (k : SlotId) (s : State) : MovesTo s (expireTxn k s) := by
  unfold expireTxn
  split
  · rename_i t opened
    exact .move (.ended _ _ _ opened)
  · exact .same (.refl s)

theorem answerSent_movesTo (p : PortId) (s : State) :
    MovesTo s ((if p = .mnt ∧ restartSending s then restartSent else sendHead p) s) := by
  split
  · exact .move .restartSent
  · exact .same (.ofPorts (sendHead_only p s))

/-- Every command moves the points, sections, transaction slots and the hand-off by at most one `BlockMove`. -/
theorem exec_moves {c : Instr} {s t : State} (h : exec c s = .next t) : MovesTo s t := by
  cases c with
  | resetInputLow =>
    unfold exec execResetInputLow at h
    exact event_movesTo h fun _ => .same ⟨rfl, rfl, rfl, rfl, rfl⟩
  | coldStart low => exact event_movesTo h fun _ => .move (.coldStart low)
  | loadEnd image => exact event_movesTo h fun _ => .move (.endLoad image)
  | warmStart => exact event_movesTo h fun _ => .move .restartSent
  | answerSent p => exact event_movesTo h fun _ => answerSent_movesTo p s
  | timeBaseMillisecond => exact event_movesTo h fun _ => .move .tick
  | trkGoodCharacter l b early => exact event_movesTo h fun _ => .same (.ofLines (lineCharacter_only l b s))
  | trkFramingError l early =>
    unfold exec execTrkFramingError at h
    exact event_movesTo h fun _ => .same (.ofLines (setLine_only _ _ _))
  | trkBreak l early =>
    unfold exec execTrkBreak at h
    exact event_movesTo h fun _ => .same (.ofLines (setLine_only _ _ _))
  | trkBreakEnd l =>
    unfold exec execTrkBreakEnd at h
    exact event_movesTo h fun _ => .same (.ofLines (setLine_only _ _ _))
  | trkGapTimeout l =>
    unfold exec execTrkGapTimeout at h
    exact event_movesTo h fun _ => .same (.ofLines (setLine_only _ _ _))
  | lineSilenceExpiry l =>
    unfold exec execLineSilenceExpiry at h
    exact event_movesTo h fun _ => .same (.ofLines ((setLine_only _ _ _).trans (append_only _ _).toLines))
  | telegramDelivery l =>
    exact event_movesTo h fun can => .move (.takeDelivery l (by simp_all))
  | pointSilenceExpiry d => exact event_movesTo h fun can => .move (.pointSilent d (by simp_all))
  | handOff span =>
    cases span with
    | whole => exact event_movesTo h fun _ => .move .handOffAll
    | oneStep => exact event_movesTo h fun _ => .move .handOffOnce
  | clearingTimerExpiry n => exact event_movesTo h fun can => .move (.cleared n (by simp_all))
  | confirmWindowExpiry k => exact event_movesTo h fun _ => expireTxn_movesTo k s
  | dwellTimerExpiry p =>
    unfold exec execDwellTimerExpiry at h
    exact event_movesTo h fun _ => .same (.ofJournal (setWatch_only _ _ _))
  | portGoodCharacter p b => exact event_movesTo h fun _ => .same (.ofPorts (portCharacter_only p b s))
  | rejoin p tag => exact event_movesTo h fun _ => .same (.ofPorts (handleFrame_only _ _ _ _))
  | portFramingError p => exact event_movesTo h fun _ => .same (.ofPorts (discardFrame_only p s))
  | portBreak p => exact event_movesTo h fun _ => .same (.ofPorts (linkReset_only p s))
  | portBreakEnd p =>
    unfold exec execPortBreakEnd at h
    exact event_movesTo h fun _ => .same (.ofPorts (setPort_only _ _ _))
  | portGapTimeout p => exact event_movesTo h fun _ => .same (.ofPorts (discardFrame_only p s))
  | status => exact engineStep_movesTo h fun _ _ s => .same (.refl s)
  | summary => exact engineStep_movesTo h fun _ _ s => .same (.refl s)
  | readSection => exact engineStep_movesTo h fun p r s => .same (readSectionRule_same p r s)
  | readPoint => exact engineStep_movesTo h fun p r s => .same (readPointRule_same p r s)
  | readLine => exact engineStep_movesTo h fun p r s => .same (readLineRule_same p r s)
  | selectView => exact engineStep_movesTo h fun p r s => .same (selectViewRule_same p r s)
  | readNext => exact engineStep_movesTo h fun _ _ _ => .same (.ofPorts (setPort_only _ _ _))
  | journalRead => exact engineStep_movesTo h fun p r s => .same (journalReadRule_same p r s)
  | journalSeek => exact engineStep_movesTo h fun p r s => .same (journalSeekRule_same p r s)
  | identify => exact engineStep_movesTo h fun _ _ _ => .same (.ofJournal (setWatch_only _ _ _))
  | setMask => exact engineStep_movesTo h fun _ _ _ => .same (.ofJournal (setWatch_only _ _ _))
  | setInhibit => exact engineStep_movesTo h setInhibitRule_movesTo
  | proposeReset => exact engineStep_movesTo h proposeResetRule_movesTo
  | confirmReset => exact engineStep_movesTo h confirmResetRule_movesTo
  | cancelReset => exact engineStep_movesTo h cancelResetRule_movesTo
  | clearStatistics => exact engineStep_movesTo h fun _ _ _ => .move .clearStats
  | restart => exact engineStep_movesTo h fun _ _ _ => .same ⟨rfl, rfl, rfl, rfl, rfl⟩

/-- What every move keeps, and what depends on the blocks alone, every step keeps. -/
theorem step_keeps_of_moves {P : State → Prop} (same : ∀ s t, SameBlocks s t → P s → P t)
    (moves : ∀ s t, BlockMove s t → P s → P t) (s t : State) (hs : P s) (h : step s = .next t) : P t :=
  step_keeps (fun s _ hp => same s _ ⟨rfl, rfl, rfl, rfl, rfl⟩ hp)
    (fun _ _ _ hp hc => (exec_moves hc).keeps same moves hp) s t hs h

end Sys2Proof.Proofs
end

section
/-! Proofs: what the image's checks guarantee, and the tables after a start, a load and a tick. -/

namespace Sys2Proof.Proofs

open Sys2Proof.Machine Sys2Proof.Safety Sys2Proof.Claims

/-! ### What a load without fault has checked -/

theorem imageFaultOf_eq_none_iff (img : List Byte) :
    imageFaultOf img = .none ↔ markerOk img = true ∧ lengthOk img = true ∧ crcOk img = true ∧ rangeOk img = true ∧
      topologyOk img = true := by
  unfold imageFaultOf
  cases markerOk img <;> cases lengthOk img <;> cases crcOk img <;> cases rangeOk img <;> cases topologyOk img <;>
    simp

theorem rangeOk_iff (img : List Byte) :
    rangeOk img = true ↔ globalInRange img = true ∧ (∀ p, portInRange img p = true) ∧
      (∀ d, pointInRange img d = true) ∧ ∀ n, sectionInRange img n = true := by
  have ports : ∀ p, p ∈ allPorts := fun p => by cases p <;> decide
  simp [rangeOk, ports, and_assoc]

theorem topologyOk_iff (img : List Byte) :
    topologyOk img = true ↔ (∀ d, pointConsistent img d = true) ∧ ∀ n, sectionConsistent img n = true := by
  simp [topologyOk]

/-- The image entry of a used point: its sides differ and its gap limit is at most 5 (R1, R9). -/
def EntrySound (x : Option PointCfg) : Prop := ∀ c, x = some c → c.sideA ≠ c.sideB ∧ c.gapLimit ≤ 5

theorem entrySound_none : EntrySound none := fun _ h => nomatch h

theorem pointEntry_sound {img : List Byte} (good : imageFaultOf img = .none) (d : PointId) :
    EntrySound (pointEntry img d) := by
  obtain ⟨-, -, -, range, topology⟩ := (imageFaultOf_eq_none_iff img).mp good
  have ranged := ((rangeOk_iff img).mp range).2.2.1 d
  have consistent := ((topologyOk_iff img).mp topology).1 d
  intro c hc
  unfold pointEntry at hc
  split at hc
  · rename_i used
    obtain rfl := Option.some.inj hc
    simp only [pointInRange, pointConsistent, used, Bool.not_true, Bool.false_or, Bool.and_eq_true, bne_iff_ne,
      decide_eq_true_eq] at ranged consistent
    exact ⟨consistent.1.1.1.1, ranged.2⟩
  · exact nomatch hc

theorem commitLimit_le_of_good {img : List Byte} (good : imageFaultOf img = .none) : imageNat img 10 ≤ 4 := by
  obtain ⟨-, -, -, range, -⟩ := (imageFaultOf_eq_none_iff img).mp good
  have ranged := ((rangeOk_iff img).mp range).1
  simp only [globalInRange, Bool.and_eq_true, decide_eq_true_eq] at ranged
  exact ranged.1.2

/-! ### The tables after a start -/

section
variable (s : State)

@[simp] theorem coldStart_line (low : PortLevels) (l : LineId) : (coldStart low s).line l = .cold := by
  simp [State.line, coldStart]
@[simp] theorem coldStart_point (low : PortLevels) (d : PointId) :
    (coldStart low s).point d = { (s.point d).abandoned with stats := .zero } := by simp [State.point, coldStart]
@[simp] theorem coldStart_sec (low : PortLevels) (n : SectionId) : (coldStart low s).sec n = (s.sec n).abandoned := by
  simp [State.sec, coldStart]
@[simp] theorem coldStart_slot (low : PortLevels) (k : SlotId) : (coldStart low s).slot k = none := by
  simp [State.slot, coldStart]
@[simp] theorem coldStart_port (low : PortLevels) (p : PortId) :
    (coldStart low s).port p = coldPort (lineLow low p) := by simp [State.port, coldStart]
@[simp] theorem coldStart_watch (low : PortLevels) (p : PortId) : (coldStart low s).watch p = .cold := by
  simp [State.watch, coldStart]

@[simp] theorem warmStart_line (l : LineId) : (warmStart s).line l = (s.line l).off := by
  simp [State.line, warmStart]
@[simp] theorem warmStart_point (d : PointId) : (warmStart s).point d = (s.point d).abandoned := by
  simp [State.point, warmStart]
@[simp] theorem warmStart_sec (n : SectionId) : (warmStart s).sec n = (s.sec n).abandoned := by
  simp [State.sec, warmStart]
@[simp] theorem warmStart_slot (k : SlotId) : (warmStart s).slot k = none := by simp [State.slot, warmStart]
@[simp] theorem warmStart_port (p : PortId) : (warmStart s).port p = warmPort p (s.port p) := by
  simp [State.port, warmStart]
@[simp] theorem warmStart_watch (p : PortId) : (warmStart s).watch p = warmWatch (s.watch p) := by
  simp [State.watch, warmStart]

@[simp] theorem restartSent_point (d : PointId) : (restartSent s).point d = (s.point d).abandoned := by
  simp [restartSent, sendHead]
@[simp] theorem restartSent_slot (k : SlotId) : (restartSent s).slot k = none := by simp [restartSent]
@[simp] theorem restartSent_commitLimit : (restartSent s).commitLimit = s.commitLimit := rfl

/-! ### The tables at the end of a load -/

@[simp] theorem enterRunning_line (img : List Byte) (l : LineId) : (enterRunning img s).line l = (s.line l).off := by
  simp [State.line, enterRunning]
@[simp] theorem enterRunning_point (img : List Byte) (d : PointId) :
    (enterRunning img s).point d = startPoint img d (s.point d) := by simp [State.point, enterRunning]
@[simp] theorem enterRunning_sec (img : List Byte) (n : SectionId) :
    (enterRunning img s).sec n = startSection img n := by simp [State.sec, enterRunning]
@[simp] theorem enterRunning_slot (img : List Byte) (k : SlotId) : (enterRunning img s).slot k = none := by
  simp [State.slot, enterRunning]
@[simp] theorem enterRunning_port (img : List Byte) (p : PortId) :
    (enterRunning img s).port p = runningPort img (portIndex p) (s.port p) := by simp [State.port, enterRunning]
@[simp] theorem enterRunning_watch (img : List Byte) (p : PortId) :
    (enterRunning img s).watch p = runningWatch img (portIndex p) (s.watch p) := by simp [State.watch, enterRunning]

@[simp] theorem enterUnconfigured_line (l : LineId) : (enterUnconfigured s).line l = (s.line l).off := by
  simp [State.line, enterUnconfigured]
@[simp] theorem enterUnconfigured_point (d : PointId) :
    (enterUnconfigured s).point d = { Point.cold with stats := (s.point d).stats } := by
  simp [State.point, enterUnconfigured]
@[simp] theorem enterUnconfigured_sec (n : SectionId) : (enterUnconfigured s).sec n = .cold := by
  simp [State.sec, enterUnconfigured]
@[simp] theorem enterUnconfigured_slot (k : SlotId) : (enterUnconfigured s).slot k = none := by
  simp [State.slot, enterUnconfigured]
@[simp] theorem enterUnconfigured_port (p : PortId) :
    (enterUnconfigured s).port p = (s.port p).takeRate .r57600 := by simp [State.port, enterUnconfigured]
@[simp] theorem enterUnconfigured_watch (p : PortId) : (enterUnconfigured s).watch p = s.watch p := rfl

/-- The state in which a load ends: the code and the label kept, the memory port idle (R6, R7). -/
def loadJudged (img : List Byte) (s : State) : State :=
  { s with imageFault := imageFaultOf img, imageLabel := keptLabel img, memSelect := false }

theorem endLoad_of_good {image : List Byte} (good : imageFaultOf (presented image) = .none) :
    endLoad image s = append (.start s.startKind (keptLabel (presented image)) .none)
      (enterRunning (presented image) (loadJudged (presented image) s)) := by
  unfold endLoad loadJudged
  simp only [good, if_true]

theorem endLoad_of_fault {image : List Byte} (fault : imageFaultOf (presented image) ≠ .none) :
    endLoad image s = append (.start s.startKind (keptLabel (presented image)) (imageFaultOf (presented image)))
      (enterUnconfigured (loadJudged (presented image) s)) := by
  unfold endLoad loadJudged
  simp only [fault, if_false]

/-! ### The tables after a tick and after a clearing of the statistics -/

theorem tick_point (d : PointId) :
    (tick s).point d =
      if s.inService then { s.point d with silence := tickTimer (s.point d).silence } else s.point d := by
  unfold tick
  cases s.inService <;> cases s.live <;> simp [State.point, tickPorts, tickService]

theorem tick_sec (n : SectionId) :
    (tick s).sec n = if s.inService then { s.sec n with mode := (s.sec n).mode.tick } else s.sec n := by
  unfold tick
  cases s.inService <;> cases s.live <;> simp [State.sec, tickPorts, tickService]

theorem tick_slot (k : SlotId) :
    (tick s).slot k =
      if s.inService then (s.slot k).map fun t => { t with window := t.window - 1 } else s.slot k := by
  unfold tick
  cases s.inService <;> cases s.live <;> simp [State.slot, tickPorts, tickService]

theorem tick_line (l : LineId) :
    (tick s).line l =
      if s.inService then { s.line l with silence := tickTimer (s.line l).silence, asm := (s.line l).asm.tick }
      else s.line l := by
  unfold tick
  cases s.inService <;> cases s.live <;> simp [State.line, tickPorts, tickService]

theorem tick_port (p : PortId) :
    (tick s).port p = if s.live then { s.port p with asm := (s.port p).asm.tick } else s.port p := by
  unfold tick
  cases s.inService <;> cases s.live <;> simp [State.port, tickPorts, tickService]

theorem tick_watch (p : PortId) :
    (tick s).watch p = if s.live then { s.watch p with dwell := tickTimer (s.watch p).dwell } else s.watch p := by
  unfold tick
  cases s.inService <;> cases s.live <;> simp [State.watch, tickPorts, tickService]

theorem tick_commitLimit : (tick s).commitLimit = s.commitLimit := by
  unfold tick
  cases s.inService <;> cases s.live <;> rfl

@[simp] theorem clearAllStats_line (l : LineId) : (clearAllStats s).line l = (s.line l).clearStats := by
  simp [State.line, clearAllStats]
@[simp] theorem clearAllStats_point (d : PointId) :
    (clearAllStats s).point d = { s.point d with stats := .zero } := by simp [State.point, clearAllStats]

end

end Sys2Proof.Proofs
end

section
/-! Proofs: every step keeps the point contexts sound (R40, R45, R48, R50). -/

namespace Sys2Proof.Proofs

open Sys2Proof.Machine Sys2Proof.Safety Sys2Proof.Claims

/-- A context that the Point Supervisor is handling: sound but for its silence timer, which R35 has just started. -/
structure Heard (x : Point) : Prop where
  entry : EntrySound x.cfg
  holds : PointHolds x
  silence : x.silence.isSome = true

end Sys2Proof.Proofs

namespace Sys2Proof.Safety.PointSound

open Sys2Proof.Machine Sys2Proof.Safety Sys2Proof.Proofs

theorem entry {x : Point} (h : PointSound x) : EntrySound x.cfg :=
  fun c hc => ⟨h.sides_differ c hc, h.gap_le c hc⟩

theorem withStats {x : Point} (h : PointSound x) (stats : PointStats) :
    PointSound { x with stats := stats } := ⟨h.sides_differ, h.gap_le, h.holds, h.silence_runs⟩

theorem ticked {x : Point} (h : PointSound x) : PointSound { x with silence := tickTimer x.silence } :=
  ⟨h.sides_differ, h.gap_le, h.holds, (tickTimer_isSome _).trans h.silence_runs⟩

/-- A point that has gone silent is LOST with its timer stopped (R51). -/
theorem lost {x : Point} (h : PointSound x) : PointSound { x with mode := .lost, silence := none } :=
  ⟨h.sides_differ, h.gap_le, trivial, rfl⟩

theorem heard {x : Point} (h : PointSound x) (c : PointCfg) (l : LineId) : Heard (x.heard c l) :=
  ⟨h.entry, h.holds, rfl⟩

/-- The last cause and a statistic are no part of what a context holds. -/
theorem withLast {x : Point} (h : PointSound x) (cause : Option Cause) (stats : PointStats) :
    PointSound { x with lastCause := cause, stats := stats } := ⟨h.sides_differ, h.gap_le, h.holds, h.silence_runs⟩

end Sys2Proof.Safety.PointSound

namespace Sys2Proof.Proofs

open Sys2Proof.Machine Sys2Proof.Safety Sys2Proof.Claims

/-! ### Sound tables of points -/

theorem pointsSound_of_points {s t : State} (h : t.points = s.points) (hs : PointsSound s) : PointsSound t :=
  fun d => by simpa only [State.point, h] using hs d

theorem pointsSound_setPoint {s : State} {d : PointId} {y : Point} (hs : PointsSound s) (hy : PointSound y) :
    PointsSound (s.setPoint d y) := fun d' => by
  by_cases h : d' = d
  · simpa [h] using hy
  · simpa [State.setPoint_ne _ _ _ _ h] using hs d'

/-! ### Sound contexts -/

theorem pointSound_of_entry {x : Point} (entry : EntrySound x.cfg) (holds : PointHolds x)
    (silence : x.silence.isSome = silenceRuns x.mode.name) : PointSound x :=
  ⟨fun c hc => (entry c hc).1, fun c hc => (entry c hc).2, holds, silence⟩

theorem pointSound_unused {cfg : Option PointCfg} (entry : EntrySound cfg) (stats : PointStats) :
    PointSound { Point.cold with cfg := cfg, stats := stats } := pointSound_of_entry entry trivial rfl

theorem startPoint_sound {img : List Byte} (good : imageFaultOf img = .none) (d : PointId) (x : Point) :
    PointSound (startPoint img d x) := by
  unfold startPoint
  split
  · exact pointSound_of_entry (pointEntry_sound good d) trivial rfl
  · exact pointSound_of_entry (pointEntry_sound good d) trivial rfl

namespace Heard

variable {x : Point} {t : Telegram}

theorem withStats (h : Heard x) (stats : PointStats) : Heard { x with stats := stats } := ⟨h.entry, h.holds, h.silence⟩

/-- In a state in which the timer runs, a context being handled is sound. -/
theorem sound (h : Heard x) (runs : silenceRuns x.mode.name = true) : PointSound x :=
  pointSound_of_entry h.entry h.holds (h.silence.trans runs.symm)

theorem faulted (h : Heard x) (t : Telegram) : PointSound ({ x with mode := .faulted }.takeFaults t) :=
  pointSound_of_entry h.entry trivial h.silence

theorem takeFaults (h : Heard x) (faulted : x.mode = .faulted) (t : Telegram) : PointSound (x.takeFaults t) := by
  refine pointSound_of_entry h.entry ?_ ?_
  · simp [PointHolds, Point.takeFaults, faulted]
  · simpa [Point.takeFaults, faulted, silenceRuns, PointMode.name] using h.silence

theorem pending (h : Heard x) (free : t.headFault = false) : PointSound ({ x with mode := .pending t }.clearFaults) :=
  pointSound_of_entry h.entry ⟨free, rfl, rfl⟩ h.silence

/-- A telegram becomes the candidate of a context whose fault flags are clear. -/
theorem candidate (h : Heard x) (clear : x.fault1 = false ∧ x.fault2 = false) (free : t.headFault = false) :
    PointSound { x with mode := .pending t } :=
  pointSound_of_entry h.entry ⟨free, clear⟩ h.silence

theorem pending_holds (h : Heard x) {c : Telegram} (mode : x.mode = .pending c) :
    c.headFault = false ∧ x.fault1 = false ∧ x.fault2 = false := by
  simpa [PointHolds, mode] using h.holds

/-- Entry to IN_SYNC (R38): the candidate becomes the older telegram of the history, which bears e − 2. -/
theorem synced (h : Heard x) {c : Telegram} (mode : x.mode = .pending c) (free : t.headFault = false)
    (next : t.seq = c.seq + 1) : PointSound (syncedPoint x c t) := by
  obtain ⟨hc, h1, h2⟩ := h.pending_holds mode
  refine pointSound_of_entry h.entry ⟨rfl, rfl, rfl, free, ?_, h1, h2, rfl, rfl, rfl⟩ h.silence
  intro o ho
  obtain rfl := Option.some.inj ho
  exact ⟨by rw [next]; bv_omega, hc⟩

variable {last : Telegram} {older : Option Telegram} {bAB bBA : Byte} {e : BitVec 3}

theorem inSync_holds (h : Heard x) (mode : x.mode = .inSync last older bAB bBA e) :
    e = last.seq + 1 ∧ last.headFault = false ∧ x.fault1 = false ∧ x.fault2 = false := by
  have hx := h.holds
  simp only [PointHolds, mode] at hx
  obtain ⟨he, -, -, hlast, -, h1, h2, -⟩ := hx
  exact ⟨he, hlast, h1, h2⟩

/-- An acceptance (R45); where no telegram is missing, it bears the expected sequence. -/
theorem accepted (h : Heard x) (mode : x.mode = .inSync last older bAB bBA e) (free : t.headFault = false) {gap : Nat}
    (next : gap = 0 → t.seq = e) : PointSound (acceptedPoint x last t gap) := by
  obtain ⟨he, hlast, h1, h2⟩ := h.inSync_holds mode
  refine pointSound_of_entry h.entry ⟨rfl, rfl, rfl, free, ?_, h1, h2, rfl, rfl, rfl⟩ h.silence
  intro o ho
  split at ho
  · rename_i hg
    obtain rfl := Option.some.inj ho
    exact ⟨by rw [next hg, he]; bv_omega, hlast⟩
  · exact nomatch ho

/-- A departure by a telegram leads to FAULTED or, with clear fault flags, to PENDING (R52). -/
theorem departed (h : Heard x) (mode : x.mode = .inSync last older bAB bBA e) (cause : Cause) (t : Telegram) :
    PointSound (departedPoint cause x (some t)) := by
  obtain ⟨-, -, clear⟩ := h.inSync_holds mode
  unfold departedPoint Machine.departed
  dsimp only
  split
  · exact pointSound_of_entry h.entry trivial h.silence
  · rename_i free
    exact pointSound_of_entry h.entry ⟨by simpa using free, clear⟩ h.silence

end Heard

/-! ### The points after each rule of the Point Supervisor -/

theorem depart_points (d : PointId) (c : PointCfg) (x : Point) (cause : Cause) (t : Option Telegram) (s : State) :
    (depart d c x cause t s).points = (s.setPoint d (departedPoint cause x t)).points := by
  unfold depart
  dsimp only
  rw [(reportDeparture_only _ _).points,
    (foldl_only (R := OnlySections) .refl .trans _ (fun _ _ => disturb_only _ _ _) _ _).points, append_points]

theorem enterSync_points (d : PointId) (x : Point) (candidate t : Telegram) (s : State) :
    (enterSync d x candidate t s).points = (s.setPoint d (syncedPoint x candidate t)).points :=
  (warningRecord_only _ _ _ _).points

theorem acceptTelegram_points (d : PointId) (x : Point) (last t : Telegram) (dAB dBA : Byte) (gap : Nat) (s : State) :
    (acceptTelegram d x last t dAB dBA gap s).points = (s.setPoint d (acceptedPoint x last t gap)).points :=
  (warningRecord_only _ _ _ _).points

/-! ### Classification -/

section
variable {seq e : BitVec 3} {gapLimit : Nat} {last : Telegram} {older : Option Telegram}

/-- A NORMAL telegram bears the expected sequence (R41). -/
theorem classify_normal (h : classify seq e gapLimit last older = .normal) : seq = e := by
  unfold classify at h
  dsimp only at h
  split at h
  · rename_i ahead
    bv_omega
  · repeat' split at h
    all_goals exact nomatch h

/-- A gap is never of 0 telegrams (R41). -/
theorem classify_gap {g : Nat} (h : classify seq e gapLimit last older = .gap g) : g ≠ 0 := by
  unfold classify at h
  dsimp only at h
  split at h
  · exact nomatch h
  · rename_i ahead
    split at h
    · exact TelegramClass.gap.inj h ▸ ahead
    · repeat' split at h
      all_goals exact nomatch h

end

/-! ### The rules keep the contexts sound -/

section
variable {s : State} {d : PointId} {x : Point}

theorem huntTelegram_sound (hs : PointsSound s) (hx : Heard x) (t : Telegram) : PointsSound (huntTelegram d x t s) := by
  unfold huntTelegram
  split
  · exact pointsSound_setPoint hs (hx.faulted t)
  · rename_i free
    exact pointsSound_setPoint hs (hx.pending (by simpa using free))

theorem faultedTelegram_sound (hs : PointsSound s) (hx : Heard x) (mode : x.mode = .faulted) (t : Telegram) :
    PointsSound (faultedTelegram d x t s) := by
  unfold faultedTelegram
  split
  · exact pointsSound_setPoint hs (hx.takeFaults mode t)
  · rename_i free
    exact pointsSound_setPoint hs (hx.pending (by simpa using free))

theorem pendingTelegram_sound (hs : PointsSound s) (hx : Heard x) {c : Telegram} (mode : x.mode = .pending c)
    (t : Telegram) : PointsSound (pendingTelegram d x c t s) := by
  unfold pendingTelegram
  split
  · exact pointsSound_setPoint hs (hx.faulted t)
  rename_i faulty
  have free : t.headFault = false := by simpa using faulty
  split
  · rename_i next
    exact pointsSound_of_points (enterSync_points _ _ _ _ _) (pointsSound_setPoint hs (hx.synced mode free next))
  split
  · exact pointsSound_setPoint hs ((hx.withStats _).sound (by simp [mode, silenceRuns, PointMode.name]))
  · exact pointsSound_setPoint hs (hx.candidate (hx.pending_holds mode).2 free)

variable {last : Telegram} {older : Option Telegram} {bAB bBA : Byte} {e : BitVec 3}

theorem depart_sound (hs : PointsSound s) (hx : Heard x) (mode : x.mode = .inSync last older bAB bBA e) (c : PointCfg)
    (cause : Cause) (t : Telegram) : PointsSound (depart d c x cause (some t) s) :=
  pointsSound_of_points (depart_points _ _ _ _ _ _) (pointsSound_setPoint hs (hx.departed mode cause t))

theorem judgeCounts_sound (hs : PointsSound s) (hx : Heard x) (mode : x.mode = .inSync last older bAB bBA e)
    (c : PointCfg) {t : Telegram} (free : t.headFault = false) {gap : Nat} (next : gap = 0 → t.seq = e) :
    PointsSound (judgeCounts d c x last bAB bBA t gap s) := by
  unfold judgeCounts
  split
  · exact pointsSound_of_points (acceptTelegram_points _ _ _ _ _ _ _ _)
      (pointsSound_setPoint hs (hx.accepted mode free next))
  · exact depart_sound hs hx mode _ _ _

theorem inSyncTelegram_sound (hs : PointsSound s) (hx : Heard x) (mode : x.mode = .inSync last older bAB bBA e)
    (c : PointCfg) (t : Telegram) : PointsSound (inSyncTelegram d c x last older bAB bBA e t s) := by
  unfold inSyncTelegram
  split
  · split
    · exact pointsSound_setPoint hs ((hx.withStats _).sound (by simp [mode, silenceRuns, PointMode.name]))
    · exact depart_sound hs hx mode _ _ _
  split
  · exact depart_sound hs hx mode _ _ _
  split
  · exact depart_sound hs hx mode _ _ _
  rename_i faulty
  have free : t.headFault = false := by simpa using faulty
  split
  · rename_i isGap
    exact judgeCounts_sound hs (hx.withStats (x.stats.countLost _)) mode c free fun h => absurd h (classify_gap isGap)
  · rename_i isNormal
    exact judgeCounts_sound hs hx mode c free fun _ => classify_normal isNormal
  · exact depart_sound hs hx mode _ _ _
  · exact depart_sound hs hx mode _ _ _

end

theorem supervise_sound {s : State} (hs : PointsSound s) (l : LineId) (del : Delivery) :
    PointsSound (supervise l del s) := by
  unfold supervise
  split
  · exact hs
  · rename_i c _
    have hx := (hs del.point).heard c l
    dsimp only
    split
    · exact hs
    · exact huntTelegram_sound hs hx _
    · exact huntTelegram_sound hs hx _
    · exact pendingTelegram_sound hs hx (by assumption) _
    · exact inSyncTelegram_sound hs hx (by assumption) _ _
    · exact faultedTelegram_sound hs hx (by assumption) _

theorem takeDelivery_sound {s : State} (hs : PointsSound s) (l : LineId) : PointsSound (takeDelivery l s) := by
  unfold takeDelivery
  split
  · exact hs
  · exact supervise_sound (s := s.setLine l _) (pointsSound_of_points rfl hs) l _

theorem pointSilent_sound {s : State} (hs : PointsSound s) (d : PointId) : PointsSound (pointSilent d s) := by
  unfold pointSilent
  dsimp only
  split
  · refine pointsSound_of_points (depart_points _ _ _ _ _ _) (pointsSound_setPoint hs ?_)
    exact (hs d).lost.withLast _ _
  · exact pointsSound_setPoint hs (hs d).lost
  · exact pointsSound_setPoint hs (hs d).lost
  all_goals exact hs

/-! ### Every move -/

theorem endLoad_pointsSound (image : List Byte) (s : State) : PointsSound (endLoad image s) := by
  by_cases good : imageFaultOf (presented image) = .none
  · intro d
    rw [endLoad_of_good s good]
    simpa using startPoint_sound good d _
  · intro d
    rw [endLoad_of_fault s good]
    simpa using pointSound_unused (cfg := Point.cold.cfg) entrySound_none _

theorem handOffStep_points (h : HandOff) (s : State) : (handOffStep h s).points = s.points := by
  unfold handOffStep
  split
  · exact (recordAxles_only h s).points
  · exact (applySideA_only h s).points
  · exact (applySideB_only h s).points
  · exact (activityStep_only h s).points

theorem handOffOnce_points (s : State) : (handOffOnce s).points = s.points := by
  unfold handOffOnce
  split
  · exact handOffStep_points _ s
  · rfl

theorem handOffAll_points (s : State) : (handOffAll s).points = s.points := by
  simp only [handOffAll, handOffOnce_points]

theorem setInhibitFlag_only (p : PortId) (n : SectionId) (on : Bool) (s : State) :
    OnlyTable s (setInhibitFlag p n on s) := by
  unfold setInhibitFlag
  dsimp only
  split
  · exact (setSec_only _ _ _).toTable.trans (cancelFor_only _ _ _ _)
  · exact (setSec_only _ _ _).toTable

theorem openTransaction_points (p : PortId) (n : SectionId) (kind : ResetKind) (k : SlotId) (s : State) :
    (openTransaction p n kind k s).points = s.points := rfl

theorem blockMove_pointsSound (s t : State) (h : BlockMove s t) (hs : PointsSound s) : PointsSound t := by
  cases h with
  | stay => exact hs
  | coldStart low =>
    intro d
    simpa [Point.abandoned] using pointSound_unused (hs d).entry .zero
  | endLoad image => exact endLoad_pointsSound image s
  | restartSent =>
    intro d
    simpa [Point.abandoned] using pointSound_unused (hs d).entry _
  | tick =>
    intro d
    rw [tick_point]
    split
    · exact (hs d).ticked
    · exact hs d
  | clearStats =>
    intro d
    simpa using (hs d).withStats .zero
  | takeDelivery l => exact takeDelivery_sound hs l
  | pointSilent d => exact pointSilent_sound hs d
  | handOffOnce => exact pointsSound_of_points (handOffOnce_points s) hs
  | handOffAll => exact pointsSound_of_points (handOffAll_points s) hs
  | cleared n => exact pointsSound_of_points (putSection_only _ _ _ _).points hs
  | inhibited p n on => exact pointsSound_of_points (setInhibitFlag_only _ _ _ _).points hs
  | opened p n kind k => exact pointsSound_of_points (openTransaction_points _ _ _ _ _) hs
  | ended e k t => exact pointsSound_of_points (endTxn_only _ _ _ _).points hs
  | confirmed p k t => exact pointsSound_of_points (addConfirmation_only _ _ _ _).points hs
  | notReady p k t =>
    exact pointsSound_of_points ((addConfirmation_only _ _ _ _).trans (endTxn_only _ _ _ _)).points hs
  | completed p k t =>
    exact pointsSound_of_points ((addConfirmation_only _ _ _ _).trans (completeTxn_only _ _ _)).points hs

/-- Settles O56: every move of the blocks keeps the contexts sound, by the rule of the state a point is in. -/
theorem pointsKept : Obligations.PointsKept := by
  unfold Obligations.PointsKept
  exact step_keeps_of_moves (fun _ _ h => pointsSound_of_points h.points) blockMove_pointsSound

end Sys2Proof.Proofs
end

section
/-! Proofs: every step keeps the Reset Transaction Table sound (R92, R101, R106, R109). -/

namespace Sys2Proof.Proofs

open Sys2Proof.Machine Sys2Proof.Safety Sys2Proof.Claims

/-! ### The number of OPEN slots -/

theorem openSlots_eq_card (s : State) : openSlots s = (Finset.univ.filter fun k => (s.slot k).isSome = true).card := by
  rw [openSlots, ← List.toFinset_card_of_nodup ((by decide : allSlots.Nodup).filter _), List.toFinset_filter]
  rfl

theorem openSlots_le_of_open {s t : State} (h : ∀ k u, t.slot k = some u → (s.slot k).isSome = true) :
    openSlots t ≤ openSlots s := by
  rw [openSlots_eq_card, openSlots_eq_card]
  refine Finset.card_le_card fun k hk => ?_
  obtain ⟨u, hu⟩ := Option.isSome_iff_exists.mp (Finset.mem_filter.mp hk).2
  exact Finset.mem_filter.mpr ⟨Finset.mem_univ k, h k u hu⟩

/-- A change of one slot opens one slot at most. -/
theorem openSlots_le_succ {s t : State} {k : SlotId} (h : ∀ j, j ≠ k → t.slot j = s.slot j) :
    openSlots t ≤ openSlots s + 1 := by
  rw [openSlots_eq_card, openSlots_eq_card]
  refine (Finset.card_le_card fun j hj => ?_).trans (Finset.card_insert_le k _)
  by_cases hjk : j = k
  · exact hjk ▸ Finset.mem_insert_self _ _
  · rw [Finset.mem_filter, h j hjk] at hj
    exact Finset.mem_insert_of_mem (Finset.mem_filter.mpr hj)

/-! ### Sections that stay DISTURBED -/

/-- A section that is DISTURBED stays so and keeps its open transaction number. -/
def StaysDisturbed (x y : Section) : Prop := x.isDisturbed = true → y.isDisturbed = true ∧ y.openTxn = x.openTxn

theorem isDisturbed_iff (x : Section) : x.isDisturbed = true ↔ ∃ c, x.mode = .disturbed c := by
  unfold Section.isDisturbed
  cases x.mode <;> simp [SectionMode.name]

theorem StaysDisturbed.refl (x : Section) : StaysDisturbed x x := fun h => ⟨h, rfl⟩

theorem StaysDisturbed.trans {x y z : Section} (h : StaysDisturbed x y) (g : StaysDisturbed y z) :
    StaysDisturbed x z := fun hx => ⟨(g (h hx).1).1, (g (h hx).1).2.trans (h hx).2⟩

theorem StaysDisturbed.ofMode {x y : Section} (mode : y.mode = x.mode) (number : y.openTxn = x.openTxn) :
    StaysDisturbed x y := fun h => ⟨by simpa only [Section.isDisturbed, mode] using h, number⟩

/-- A disturbance of a DISTURBED section raises its repeat count only (R88). -/
theorem staysDisturbed_disturbed (c : Cause) (x : Section) : StaysDisturbed x (disturbed c x) := fun h => by
  obtain ⟨c', mode⟩ := (isDisturbed_iff x).mp h
  simp [disturbed, mode, isDisturbed_iff]

/-- In DISTURBED the state logic does not rule (R72). -/
theorem staysDisturbed_applied (x : Section) (ins outs : Nat) (passage : Bool) :
    StaysDisturbed x (appliedSection x ins outs passage) := by
  have counted : StaysDisturbed x (countedSection x ins outs passage) := .ofMode rfl rfl
  unfold appliedSection
  dsimp only
  split
  · exact counted.trans (staysDisturbed_disturbed _ _)
  split
  · exact counted.trans (staysDisturbed_disturbed _ _)
  · intro h
    obtain ⟨c, mode⟩ := (isDisturbed_iff x).mp h
    simp [isDisturbed_iff, mode, ruleState, countedSection]

theorem staysDisturbed_ticked (x : Section) : StaysDisturbed x { x with mode := x.mode.tick } := fun h => by
  obtain ⟨c, mode⟩ := (isDisturbed_iff x).mp h
  simp [isDisturbed_iff, mode, SectionMode.tick]

theorem staysDisturbed_withInhibit (x : Section) (p : PortId) (on : Bool) : StaysDisturbed x (x.withInhibit p on) := by
  cases p <;> exact .ofMode rfl rfl

theorem staysDisturbed_setSec {n : SectionId} {x : Section} {s : State} (h : StaysDisturbed (s.sec n) x)
    (m : SectionId) : StaysDisturbed (s.sec m) ((s.setSec n x).sec m) := by
  by_cases hm : m = n
  · simpa [hm] using h
  · simpa [State.setSec_ne _ _ _ _ hm] using .refl _

theorem staysDisturbed_putSection {n : SectionId} {old : SectionMode} {x : Section} {s : State}
    (h : StaysDisturbed (s.sec n) x) (m : SectionId) : StaysDisturbed (s.sec m) ((putSection n old x s).sec m) := by
  by_cases hm : m = n
  · simpa [hm] using h
  · simpa [putSection_sec_ne _ _ _ _ hm] using .refl _

/-! ### Sound tables -/

theorem txnSound_of_free {t : State} (limit : t.commitLimit ≤ 4) (free : ∀ k, t.slot k = none) : TxnSound t where
  limit_le := limit
  limit := by simp [openSlots, free]
  one_section j _ u _ hj := by simp [free] at hj
  one_number j _ u _ hj := by simp [free] at hj
  disturbed k u hk := by simp [free] at hk
  unconfirmed k u hk := by simp [free] at hk
  direct_mnt k u hk := by simp [free] at hk

/-- Transaction `u` is `v` but for its confirmations and its window. -/
structure SameTxn (v u : Txn) : Prop where
  number : u.number = v.number
  sec : u.sec = v.sec
  kind : u.kind = v.kind
  proposer : u.proposer = v.proposer

/-- A table stays sound when every transaction still open was open before, is not confirmed by both, and its
section stays DISTURBED with its number. -/
theorem txnSound_of_kept {s t : State} (hs : TxnSound s) (limit : t.commitLimit = s.commitLimit)
    (kept : ∀ k u, t.slot k = some u → ∃ v, s.slot k = some v ∧ SameTxn v u ∧ (u.byIxa && u.byIxb) = false)
    (secs : ∀ k u, t.slot k = some u → StaysDisturbed (s.sec u.sec) (t.sec u.sec)) : TxnSound t where
  limit_le := limit ▸ hs.limit_le
  limit := by
    rw [limit]
    refine (openSlots_le_of_open fun k u hk => ?_).trans hs.limit
    obtain ⟨v, hv, -⟩ := kept k u hk
    simp [hv]
  one_section j k u w hj hk same := by
    obtain ⟨u', hu', eu, -⟩ := kept j u hj
    obtain ⟨w', hw', ew, -⟩ := kept k w hk
    exact hs.one_section j k u' w' hu' hw' (by rw [← eu.sec, ← ew.sec, same])
  one_number j k u w hj hk same := by
    obtain ⟨u', hu', eu, -⟩ := kept j u hj
    obtain ⟨w', hw', ew, -⟩ := kept k w hk
    exact hs.one_number j k u' w' hu' hw' (by rw [← eu.number, ← ew.number, same])
  disturbed k u hk := by
    obtain ⟨v, hv, e, -⟩ := kept k u hk
    obtain ⟨dist, number⟩ := hs.disturbed k v hv
    rw [← e.sec] at dist number
    obtain ⟨dist', number'⟩ := secs k u hk dist
    exact ⟨dist', by rw [number', number, e.number]⟩
  unconfirmed k u hk := by
    obtain ⟨-, -, -, half⟩ := kept k u hk
    exact half
  direct_mnt k u hk direct := by
    obtain ⟨v, hv, e, -⟩ := kept k u hk
    rw [e.proposer]
    exact hs.direct_mnt k v hv (by rw [← e.kind, direct])

/-- The sections change, the slots do not. -/
theorem txnSound_of_secs {s t : State} (hs : TxnSound s) (limit : t.commitLimit = s.commitLimit)
    (slots : t.slots = s.slots) (secs : ∀ n, StaysDisturbed (s.sec n) (t.sec n)) : TxnSound t := by
  have slot : ∀ k, t.slot k = s.slot k := fun k => by simp only [State.slot, slots]
  refine txnSound_of_kept hs limit (fun k u hk => ?_) fun _ u _ => secs u.sec
  rw [slot] at hk
  exact ⟨u, hk, ⟨rfl, rfl, rfl, rfl⟩, hs.unconfirmed k u hk⟩

/-- One slot is freed, and no section but its transaction's changes. -/
theorem txnSound_of_freed {s t : State} (hs : TxnSound s) (limit : t.commitLimit = s.commitLimit) {k : SlotId} {v : Txn}
    (opened : s.slot k = some v) (freed : t.slot k = none) (slots : ∀ j, j ≠ k → t.slot j = s.slot j)
    (secs : ∀ n, n ≠ v.sec → t.sec n = s.sec n) : TxnSound t := by
  have other : ∀ j u, t.slot j = some u → j ≠ k ∧ s.slot j = some u := fun j u hj => by
    have hjk : j ≠ k := by
      rintro rfl
      simp [freed] at hj
    exact ⟨hjk, slots j hjk ▸ hj⟩
  refine txnSound_of_kept hs limit (fun j u hj => ?_) fun j u hj => ?_
  · have hu := (other j u hj).2
    exact ⟨u, hu, ⟨rfl, rfl, rfl, rfl⟩, hs.unconfirmed j u hu⟩
  · obtain ⟨hjk, hu⟩ := other j u hj
    rw [secs u.sec fun same => hjk (hs.one_section j k u v hu opened same)]
    exact .refl _

theorem txnSound_of_same {s t : State} (h : SameBlocks s t) (hs : TxnSound s) : TxnSound t :=
  txnSound_of_secs hs h.commitLimit h.slots fun n => by rw [h.sec]; exact .refl _

/-! ### Endings and completions -/

theorem endTxn_sound {s : State} (hs : TxnSound s) {k : SlotId} {t : Txn} (opened : s.slot k = some t)
    (e : ResetEvent) : TxnSound (endTxn e k t s) := by
  obtain ⟨-, freed, slots, -, secs, -⟩ := endTxn_spec e k t s
  exact txnSound_of_freed hs (endTxn_only e k t s).commitLimit opened freed slots secs

theorem cancelFor_sound {s : State} (hs : TxnSound s) (reason : CancelReason) (q : Txn → Bool) (n : SectionId) :
    TxnSound (cancelFor reason q n s) := by
  unfold cancelFor
  split
  · rename_i k t found
    exact endTxn_sound hs (findTxn_some found).1 _
  · exact hs

theorem foldl_sound {α : Type} {f : State → α → State} (hf : ∀ s a, TxnSound s → TxnSound (f s a)) (as : List α)
    {s : State} (hs : TxnSound s) : TxnSound (as.foldl f s) := by
  induction as generalizing s with
  | nil => exact hs
  | cons a as ih => exact ih (hf s a hs)

@[simp] theorem confirm_sec (t : Txn) (p : PortId) : (t.confirm p).sec = t.sec := by cases p <;> rfl

theorem sameTxn_confirm (t : Txn) (p : PortId) : SameTxn t (t.confirm p) := by cases p <;> exact ⟨rfl, rfl, rfl, rfl⟩

@[simp] theorem addConfirmation_slot_same (p : PortId) (k : SlotId) (t : Txn) (s : State) :
    (addConfirmation p k t s).slot k = some (t.confirm p) := by simp [addConfirmation]

theorem addConfirmation_slot_ne (p : PortId) (k : SlotId) (t : Txn) (s : State) {j : SlotId} (h : j ≠ k) :
    (addConfirmation p k t s).slot j = s.slot j := by simp [addConfirmation, State.setSlot_ne _ _ _ _ h]

@[simp] theorem addConfirmation_sec (p : PortId) (k : SlotId) (t : Txn) (s : State) (n : SectionId) :
    (addConfirmation p k t s).sec n = s.sec n := by simp [addConfirmation]

theorem addConfirmation_sound {s : State} (hs : TxnSound s) {p : PortId} {k : SlotId} {t : Txn}
    (opened : s.slot k = some t) (half : ((t.confirm p).byIxa && (t.confirm p).byIxb) = false) :
    TxnSound (addConfirmation p k t s) := by
  refine txnSound_of_kept hs (addConfirmation_only p k t s).commitLimit (fun j u hj => ?_) fun _ u _ => ?_
  · by_cases hjk : j = k
    · subst hjk
      obtain rfl := Option.some.inj ((addConfirmation_slot_same p j t s).symm.trans hj)
      exact ⟨t, opened, sameTxn_confirm t p, half⟩
    · rw [addConfirmation_slot_ne _ _ _ _ hjk] at hj
      exact ⟨u, hj, ⟨rfl, rfl, rfl, rfl⟩, hs.unconfirmed j u hj⟩
  · rw [addConfirmation_sec]
    exact .refl _

theorem notReady_sound {s : State} (hs : TxnSound s) (p : PortId) {k : SlotId} {t : Txn} (opened : s.slot k = some t) :
    TxnSound (endTxn (.cancelled .notReady) k (t.confirm p) (addConfirmation p k t s)) := by
  obtain ⟨-, freed, slots, -, secs, -⟩ := endTxn_spec (.cancelled .notReady) k (t.confirm p) (addConfirmation p k t s)
  refine txnSound_of_freed hs ((addConfirmation_only p k t s).trans (endTxn_only _ _ _ _)).commitLimit opened freed
    (fun j hj => ?_) fun n hn => ?_
  · rw [slots j hj, addConfirmation_slot_ne _ _ _ _ hj]
  · rw [secs n (by simpa using hn), addConfirmation_sec]

theorem completeTxn_slot_same (k : SlotId) (t : Txn) (s : State) : (completeTxn k t s).slot k = none := by
  unfold completeTxn
  dsimp only
  rw [(raiseReset_only _ _).slot, State.setSlot_same]

theorem completeTxn_slot_ne (k : SlotId) (t : Txn) (s : State) {j : SlotId} (h : j ≠ k) :
    (completeTxn k t s).slot j = s.slot j := by
  unfold completeTxn
  dsimp only
  rw [(raiseReset_only _ _).slot, State.setSlot_ne _ _ _ _ h, (putSection_only _ _ _ _).slot, append_slot]

theorem completeTxn_sec_ne (k : SlotId) (t : Txn) (s : State) {n : SectionId} (h : n ≠ t.sec) :
    (completeTxn k t s).sec n = s.sec n := by
  unfold completeTxn
  dsimp only
  rw [(raiseReset_only _ _).sec, State.setSlot_sec, putSection_sec_ne _ _ _ _ h, append_sec]

theorem completed_sound {s : State} (hs : TxnSound s) (p : PortId) {k : SlotId} {t : Txn} (opened : s.slot k = some t) :
    TxnSound (completeTxn k (t.confirm p) (addConfirmation p k t s)) := by
  refine txnSound_of_freed hs ((addConfirmation_only p k t s).trans (completeTxn_only _ _ _)).commitLimit opened
    (completeTxn_slot_same _ _ _) (fun j hj => ?_) fun n hn => ?_
  · rw [completeTxn_slot_ne _ _ _ hj, addConfirmation_slot_ne _ _ _ _ hj]
  · rw [completeTxn_sec_ne _ _ _ (by simpa using hn), addConfirmation_sec]

/-! ### The number given to a transaction (R103) -/

theorem nextNumber_toNat (c : Byte) : (nextNumber c).toNat = if c.toNat = 255 then 1 else c.toNat + 1 := by
  unfold nextNumber
  by_cases h : c = 255
  · simp [h]
  · have hn : c.toNat ≠ 255 := fun e => h (BitVec.eq_of_toNat_eq e)
    simp only [h, if_false, hn]
    bv_omega

theorem numberOpen_iff (c : Byte) (s : State) : numberOpen c s = true ↔ ∃ k t, s.slot k = some t ∧ t.number = c := by
  unfold numberOpen txnOfNumber
  rw [Option.isSome_iff_ne_none, Ne, findTxn_none]
  push Not
  simp

/-- The values that the counter takes while it is advanced past three open numbers. -/
def candidates (c : Byte) : List Byte :=
  [c, nextNumber c, nextNumber (nextNumber c), nextNumber (nextNumber (nextNumber c))]

theorem candidates_nodup (c : Byte) : (candidates c).Nodup := by
  have h1 := nextNumber_toNat c
  have h2 := nextNumber_toNat (nextNumber c)
  have h3 := nextNumber_toNat (nextNumber (nextNumber c))
  simp only [candidates, List.nodup_cons, List.mem_cons, List.not_mem_nil, or_false, not_or, ← BitVec.toNat_inj]
  split_ifs at h1 h2 h3 <;> simp <;> omega

/-- The numbers of the transactions in the slots other than `k`; 0 stands for a FREE slot. -/
def numbersBeside (k : SlotId) (s : State) : Finset Byte :=
  (Finset.univ.erase k).image fun j => ((s.slot j).map Txn.number).getD 0

theorem mem_numbersBeside {s : State} {k j : SlotId} {t : Txn} (hj : j ≠ k) (ht : s.slot j = some t) :
    t.number ∈ numbersBeside k s := Finset.mem_image.mpr ⟨j, by simp [hj], by simp [ht]⟩

theorem card_numbersBeside_le (k : SlotId) (s : State) : (numbersBeside k s).card ≤ 3 :=
  Finset.card_image_le.trans (by simp)

/-- Three slots cannot hold all four candidates. -/
theorem exists_candidate_not_open {s : State} {k : SlotId} (free : s.slot k = none) (c : Byte) :
    ∃ x ∈ candidates c, numberOpen x s = false := by
  by_contra all
  push Not at all
  have covered : (candidates c).toFinset ⊆ numbersBeside k s := fun x hx => by
    obtain ⟨j, t, hj, rfl⟩ := (numberOpen_iff x s).mp (by simpa using all x (List.mem_toFinset.mp hx))
    refine mem_numbersBeside (fun hjk => ?_) hj
    simp [← hjk, hj] at free
  have four : (candidates c).toFinset.card = 4 := List.toFinset_card_of_nodup (candidates_nodup c)
  have three := (Finset.card_le_card covered).trans (card_numbersBeside_le k s)
  omega

theorem givenNumber_not_open {s : State} {k : SlotId} (free : s.slot k = none) (c : Byte) :
    numberOpen (givenNumber 3 c s) s = false := by
  obtain ⟨x, hx, notOpen⟩ := exists_candidate_not_open free c
  simp only [candidates, List.mem_cons, List.not_mem_nil, or_false] at hx
  simp only [givenNumber]
  split_ifs with h0 h1 h2
  · obtain rfl | rfl | rfl | rfl := hx <;> simp_all
  · simpa using h2
  · simpa using h1
  · simpa using h0

/-! ### The opening of a transaction (R106) -/

section
variable (p : PortId) (n : SectionId) (kind : ResetKind) (k : SlotId) (s : State)

theorem openTransaction_slot_same :
    (openTransaction p n kind k s).slot k =
      some (openedTxn p n kind (givenNumber 3 s.txnCounter s) s.confirmWindow) := by
  simp [openTransaction, setOpenTxn, State.slot, State.setSlot, State.setSec, append]

theorem openTransaction_slot_ne {j : SlotId} (h : j ≠ k) : (openTransaction p n kind k s).slot j = s.slot j := by
  simp [openTransaction, setOpenTxn, State.slot, State.setSlot, State.setSec, append, tget_tset_ne _ _ h]

theorem openTransaction_sec_same :
    (openTransaction p n kind k s).sec n = { s.sec n with openTxn := some (givenNumber 3 s.txnCounter s) } := by
  simp [openTransaction, setOpenTxn, State.sec, State.setSlot, State.setSec, append]

theorem openTransaction_sec_ne {m : SectionId} (h : m ≠ n) : (openTransaction p n kind k s).sec m = s.sec m := by
  simp [openTransaction, setOpenTxn, State.sec, State.setSlot, State.setSec, append, tget_tset_ne _ _ h]

end

theorem freeSlot_free {s : State} {k : SlotId} (h : freeSlot s = some k) : s.slot k = none := by
  simpa using List.find?_some h

theorem openTransaction_sound {s : State} (hs : TxnSound s) {p : PortId} {n : SectionId} {kind : ResetKind} {k : SlotId}
    (direct : kind = .direct → p = .mnt) (disturbed : (s.sec n).isDisturbed = true) (alone : txnOfSection n s = none)
    (room : openSlots s < s.commitLimit) (free : freeSlot s = some k) : TxnSound (openTransaction p n kind k s) := by
  have elsewhere : ∀ j u, s.slot j = some u → u.sec ≠ n := fun j u hj => by
    simpa using findTxn_none.mp alone j u hj
  have fresh : ∀ j u, s.slot j = some u → u.number ≠ givenNumber 3 s.txnCounter s := fun j u hj e => by
    have := (numberOpen_iff _ s).mpr ⟨j, u, hj, e⟩
    simp [givenNumber_not_open (freeSlot_free free)] at this
  have cases : ∀ j u, (openTransaction p n kind k s).slot j = some u →
      (j = k ∧ u = openedTxn p n kind (givenNumber 3 s.txnCounter s) s.confirmWindow) ∨
        (j ≠ k ∧ s.slot j = some u) := fun j u hj => by
    by_cases hjk : j = k
    · subst hjk
      rw [openTransaction_slot_same] at hj
      exact .inl ⟨rfl, (Option.some.inj hj).symm⟩
    · exact .inr ⟨hjk, openTransaction_slot_ne p n kind k s hjk ▸ hj⟩
  refine ⟨hs.limit_le, ?_, ?_, ?_, ?_, ?_, ?_⟩
  · exact (openSlots_le_succ fun j hj => openTransaction_slot_ne p n kind k s hj).trans room
  · intro i j u v hi hj same
    obtain ⟨rfl, rfl⟩ | ⟨-, hu⟩ := cases i u hi <;> obtain ⟨rfl, rfl⟩ | ⟨-, hv⟩ := cases j v hj
    · rfl
    · exact absurd same.symm (elsewhere j v hv)
    · exact absurd same (elsewhere i u hu)
    · exact hs.one_section i j u v hu hv same
  · intro i j u v hi hj same
    obtain ⟨rfl, rfl⟩ | ⟨-, hu⟩ := cases i u hi <;> obtain ⟨rfl, rfl⟩ | ⟨-, hv⟩ := cases j v hj
    · rfl
    · exact absurd same.symm (fresh j v hv)
    · exact absurd same (fresh i u hu)
    · exact hs.one_number i j u v hu hv same
  · intro j u hj
    obtain ⟨rfl, rfl⟩ | ⟨-, hu⟩ := cases j u hj
    · rw [openedTxn, openTransaction_sec_same]
      exact ⟨disturbed, rfl⟩
    · rw [openTransaction_sec_ne p n kind k s (elsewhere j u hu)]
      exact hs.disturbed j u hu
  · intro j u hj
    obtain ⟨rfl, rfl⟩ | ⟨-, hu⟩ := cases j u hj
    · cases p <;> rfl
    · exact hs.unconfirmed j u hu
  · intro j u hj hd
    obtain ⟨rfl, rfl⟩ | ⟨-, hu⟩ := cases j u hj
    · exact direct hd
    · exact hs.direct_mnt j u hu hd

/-! ### Deliveries and departures -/

/-- `t` has the sections, the transaction slots and the commitment limit of `s`. -/
structure SameTable (s t : State) : Prop where
  sections : t.sections = s.sections
  slots : t.slots = s.slots
  commitLimit : t.commitLimit = s.commitLimit

theorem SameTable.refl (s : State) : SameTable s s := ⟨rfl, rfl, rfl⟩

theorem SameTable.trans {s t u : State} (h : SameTable s t) (g : SameTable t u) : SameTable s u :=
  ⟨g.sections.trans h.sections, g.slots.trans h.slots, g.commitLimit.trans h.commitLimit⟩

theorem SameTable.ofPoints {s t : State} (h : OnlyPoints s t) : SameTable s t := ⟨h.sections, h.slots, h.commitLimit⟩

theorem txnSound_of_sameTable {s t : State} (h : SameTable s t) (hs : TxnSound s) : TxnSound t :=
  txnSound_of_secs hs h.commitLimit h.slots fun n => by
    rw [show t.sec n = s.sec n by simp only [State.sec, h.sections]]
    exact .refl _

/-- A delivery is handled either without a change of the sections and the transactions, or as a departure. -/
def KeepsOrDeparts (d : PointId) (s t : State) : Prop :=
  SameTable s t ∨ ∃ c x cause tel, t = depart d c x cause tel s

theorem enterSync_sameTable (d : PointId) (x : Point) (candidate t : Telegram) (s : State) :
    SameTable s (enterSync d x candidate t s) :=
  (SameTable.ofPoints ((changePoint_only _ _ _ _ _).trans (warningRecord_only _ _ _ _).toPoints)).trans ⟨rfl, rfl, rfl⟩

theorem acceptTelegram_sameTable (d : PointId) (x : Point) (last t : Telegram) (dAB dBA : Byte) (gap : Nat)
    (s : State) : SameTable s (acceptTelegram d x last t dAB dBA gap s) :=
  (SameTable.ofPoints ((setPoint_only _ _ _).trans (warningRecord_only _ _ _ _).toPoints)).trans ⟨rfl, rfl, rfl⟩

theorem huntTelegram_sameTable (d : PointId) (x : Point) (t : Telegram) (s : State) :
    SameTable s (huntTelegram d x t s) := by
  unfold huntTelegram
  split <;> exact .ofPoints (changePoint_only _ _ _ _ _)

theorem faultedTelegram_sameTable (d : PointId) (x : Point) (t : Telegram) (s : State) :
    SameTable s (faultedTelegram d x t s) := by
  unfold faultedTelegram
  split
  · exact .ofPoints (setPoint_only _ _ _)
  · exact .ofPoints (changePoint_only _ _ _ _ _)

theorem pendingTelegram_sameTable (d : PointId) (x : Point) (c t : Telegram) (s : State) :
    SameTable s (pendingTelegram d x c t s) := by
  unfold pendingTelegram
  split
  · exact .ofPoints (changePoint_only _ _ _ _ _)
  split
  · exact enterSync_sameTable _ _ _ _ _
  split <;> exact .ofPoints (setPoint_only _ _ _)

theorem judgeCounts_keepsOrDeparts (d : PointId) (c : PointCfg) (x : Point) (last : Telegram) (bAB bBA : Byte)
    (t : Telegram) (gap : Nat) (s : State) : KeepsOrDeparts d s (judgeCounts d c x last bAB bBA t gap s) := by
  unfold judgeCounts
  split
  · exact .inl (acceptTelegram_sameTable _ _ _ _ _ _ _ _)
  · exact .inr ⟨_, _, _, _, rfl⟩

theorem inSyncTelegram_keepsOrDeparts (d : PointId) (c : PointCfg) (x : Point) (last : Telegram)
    (older : Option Telegram) (bAB bBA : Byte) (e : BitVec 3) (t : Telegram) (s : State) :
    KeepsOrDeparts d s (inSyncTelegram d c x last older bAB bBA e t s) := by
  unfold inSyncTelegram
  split
  · split
    · exact .inl (.ofPoints (setPoint_only _ _ _))
    · exact .inr ⟨_, _, _, _, rfl⟩
  split
  · exact .inr ⟨_, _, _, _, rfl⟩
  split
  · exact .inr ⟨_, _, _, _, rfl⟩
  split
  · exact judgeCounts_keepsOrDeparts _ _ _ _ _ _ _ _ _
  · exact judgeCounts_keepsOrDeparts _ _ _ _ _ _ _ _ _
  · exact .inr ⟨_, _, _, _, rfl⟩
  · exact .inr ⟨_, _, _, _, rfl⟩

theorem supervise_keepsOrDeparts (l : LineId) (del : Delivery) (s : State) :
    KeepsOrDeparts del.point s (supervise l del s) := by
  unfold supervise
  split
  · exact .inl (.refl s)
  dsimp only
  split
  · exact .inl (.refl s)
  · exact .inl (huntTelegram_sameTable _ _ _ _)
  · exact .inl (huntTelegram_sameTable _ _ _ _)
  · exact .inl (pendingTelegram_sameTable _ _ _ _ _)
  · exact inSyncTelegram_keepsOrDeparts _ _ _ _ _ _ _ _ _ _
  · exact .inl (faultedTelegram_sameTable _ _ _ _)

theorem disturb_txnSound {s : State} (hs : TxnSound s) (c : Cause) (n : SectionId) : TxnSound (disturb c n s) :=
  txnSound_of_secs hs (disturb_only c n s).commitLimit (disturb_only c n s).slots
    (staysDisturbed_putSection (staysDisturbed_disturbed c _))

theorem depart_txnSound {s : State} (hs : TxnSound s) (d : PointId) (c : PointCfg) (x : Point) (cause : Cause)
    (t : Option Telegram) : TxnSound (depart d c x cause t s) := by
  unfold depart reportDeparture
  dsimp only
  refine foldl_sound (fun _ _ h => cancelFor_sound h _ _ _) _ (foldl_sound (fun _ _ h => disturb_txnSound h _ _) _ ?_)
  exact txnSound_of_sameTable (.ofPoints ((setPoint_only _ _ _).trans (append_only _ _).toPoints)) hs

theorem supervise_txnSound {s : State} (hs : TxnSound s) (l : LineId) (del : Delivery) :
    TxnSound (supervise l del s) := by
  obtain same | ⟨c, x, cause, tel, e⟩ := supervise_keepsOrDeparts l del s
  · exact txnSound_of_sameTable same hs
  · rw [e]
    exact depart_txnSound hs _ _ _ _ _

theorem takeDelivery_txnSound {s : State} (hs : TxnSound s) (l : LineId) : TxnSound (takeDelivery l s) := by
  unfold takeDelivery
  split
  · exact hs
  · rename_i rest _
    exact supervise_txnSound (s := s.setLine l { s.line l with deliveries := rest })
      (txnSound_of_sameTable (s := s) ⟨rfl, rfl, rfl⟩ hs) l _

theorem pointSilent_txnSound {s : State} (hs : TxnSound s) (d : PointId) : TxnSound (pointSilent d s) := by
  unfold pointSilent
  dsimp only
  split
  · exact depart_txnSound hs _ _ _ _ _
  · exact txnSound_of_sameTable (.ofPoints (changePoint_only _ _ _ _ _)) hs
  · exact txnSound_of_sameTable (.ofPoints (changePoint_only _ _ _ _ _)) hs
  all_goals exact hs

/-! ### Hand-offs -/

theorem applySection_txnSound {s : State} (hs : TxnSound s) (n : SectionId) (ins outs : Nat) :
    TxnSound (applySection n ins outs s) := by
  refine txnSound_of_secs hs (applySection_only n ins outs s).commitLimit (applySection_only n ins outs s).slots ?_
  unfold applySection
  dsimp only
  split
  · exact fun _ => .refl _
  · exact staysDisturbed_putSection (staysDisturbed_applied _ _ _ _)

theorem applySideA_txnSound {s : State} (hs : TxnSound s) (h : HandOff) : TxnSound (applySideA h s) := by
  unfold applySideA
  split
  · exact applySection_txnSound hs _ _ _
  · exact hs

theorem applySideB_txnSound {s : State} (hs : TxnSound s) (h : HandOff) : TxnSound (applySideB h s) := by
  unfold applySideB
  split
  · exact applySection_txnSound hs _ _ _
  · exact hs

theorem activityStep_txnSound {s : State} (hs : TxnSound s) (h : HandOff) : TxnSound (activityStep h s) := by
  unfold activityStep
  split
  · exact foldl_sound (fun _ _ h => cancelFor_sound h _ _ _) _ hs
  · exact hs

theorem handOffOnce_txnSound {s : State} (hs : TxnSound s) : TxnSound (handOffOnce s) := by
  have setStage : ∀ {t : State} (h : HandOff) (stage : Option HandOffStage), TxnSound t →
      TxnSound (setStage h stage t) := fun {t} _ _ ht => txnSound_of_sameTable (s := t) ⟨rfl, rfl, rfl⟩ ht
  unfold handOffOnce handOffStep
  split
  · split
    · exact setStage _ _ (txnSound_of_same (.ofJournal (recordAxles_only _ _)) hs)
    · exact setStage _ _ (applySideA_txnSound hs _)
    · exact setStage _ _ (applySideB_txnSound hs _)
    · exact setStage _ _ (activityStep_txnSound hs _)
  · exact hs

/-! ### Every move -/

theorem endLoad_txnSound {s : State} (hs : TxnSound s) (image : List Byte) : TxnSound (endLoad image s) := by
  by_cases good : imageFaultOf (presented image) = .none
  · rw [endLoad_of_good s good]
    exact txnSound_of_free (commitLimit_le_of_good good) fun k => by simp
  · rw [endLoad_of_fault s good]
    exact txnSound_of_free hs.limit_le fun k => by simp

theorem tick_txnSound {s : State} (hs : TxnSound s) : TxnSound (tick s) := by
  refine txnSound_of_kept hs (tick_commitLimit s) (fun k u hk => ?_) fun k u _ => ?_
  · rw [tick_slot] at hk
    split at hk
    · obtain ⟨v, hv, rfl⟩ := Option.map_eq_some_iff.mp hk
      exact ⟨v, hv, ⟨rfl, rfl, rfl, rfl⟩, hs.unconfirmed k v hv⟩
    · exact ⟨u, hk, ⟨rfl, rfl, rfl, rfl⟩, hs.unconfirmed k u hk⟩
  · rw [tick_sec]
    split
    · exact staysDisturbed_ticked _
    · exact .refl _

/-- A section whose clearing time is up is not DISTURBED, so no transaction is open for it (R83, R106). -/
theorem cleared_txnSound {s : State} (hs : TxnSound s) {n : SectionId} (due : (s.sec n).mode = .clearing 0) :
    TxnSound (putSection n (s.sec n).mode { s.sec n with mode := .clear } s) := by
  have only := putSection_only n (s.sec n).mode { s.sec n with mode := .clear } s
  refine txnSound_of_secs hs only.commitLimit only.slots (staysDisturbed_putSection fun disturbed => ?_)
  simp [isDisturbed_iff, due] at disturbed

theorem setInhibitFlag_txnSound {s : State} (hs : TxnSound s) (p : PortId) (n : SectionId) (on : Bool) :
    TxnSound (setInhibitFlag p n on s) := by
  have flagged : TxnSound (s.setSec n ((s.sec n).withInhibit p on)) :=
    txnSound_of_secs hs rfl rfl (staysDisturbed_setSec (staysDisturbed_withInhibit _ _ _))
  unfold setInhibitFlag
  dsimp only
  split
  · exact cancelFor_sound flagged _ _ _
  · exact flagged

theorem blockMove_txnSound (s t : State) (h : BlockMove s t) (hs : TxnSound s) : TxnSound t := by
  cases h with
  | stay => exact hs
  | coldStart low => exact txnSound_of_free hs.limit_le fun k => by simp
  | endLoad image => exact endLoad_txnSound hs image
  | restartSent => exact txnSound_of_free hs.limit_le fun k => by simp
  | tick => exact tick_txnSound hs
  | clearStats => exact txnSound_of_sameTable (s := s) ⟨rfl, rfl, rfl⟩ hs
  | takeDelivery l => exact takeDelivery_txnSound hs l
  | pointSilent d => exact pointSilent_txnSound hs d
  | handOffOnce => exact handOffOnce_txnSound hs
  | handOffAll => exact handOffOnce_txnSound (handOffOnce_txnSound (handOffOnce_txnSound (handOffOnce_txnSound hs)))
  | cleared n due => exact cleared_txnSound hs due
  | inhibited p n on => exact setInhibitFlag_txnSound hs p n on
  | opened p n kind k direct disturbed alone room free =>
    exact openTransaction_sound hs direct disturbed alone room free
  | ended e k t opened => exact endTxn_sound hs opened e
  | confirmed p k t opened half => exact addConfirmation_sound hs opened half
  | notReady p k t opened => exact notReady_sound hs p opened
  | completed p k t opened => exact completed_sound hs p opened

/-- Settles O60: every move of the blocks keeps the table sound; a move either opens one transaction, or leaves open
only transactions whose sections stay DISTURBED. -/
theorem transactionsKept : Obligations.TransactionsKept := by
  unfold Obligations.TransactionsKept
  exact step_keeps_of_moves (fun _ _ h => txnSound_of_same h) blockMove_txnSound

end Sys2Proof.Proofs
end

section
/-! Proofs: the configuration image, its fields by their bytes (10.9), and its five checks (R7 to R9, R184). -/

namespace Sys2Proof.Proofs

open Sys2Proof.Machine Sys2Proof.Safety Sys2Proof.Claims

/-! ### Fields of a byte and of a 16-bit field -/

theorem getLsbD_seven_iff (b : Byte) : b.getLsbD 7 = true ↔ 128 ≤ b.toNat := by
  have := BitVec.msb_eq_decide b
  rw [BitVec.msb_eq_getLsbD_last] at this
  rw [this, decide_eq_true_iff]

theorem extractLsb'_toNat_eq {w : Nat} (x : BitVec w) (start len : Nat) :
    (x.extractLsb' start len).toNat = x.toNat / 2 ^ start % 2 ^ len := by
  rw [BitVec.extractLsb'_toNat, Nat.shiftRight_eq_div_pow]

theorem extractLsb'_eq_zero_iff {w : Nat} (x : BitVec w) (start len : Nat) :
    x.extractLsb' start len = 0 ↔ x.toNat / 2 ^ start % 2 ^ len = 0 := by
  rw [← BitVec.toNat_inj, extractLsb'_toNat_eq]
  simp

theorem highNibble_eq (b : Byte) : highNibble b.toNat = (b.extractLsb' 4 4).toNat := by
  rw [extractLsb'_toNat_eq, highNibble]
  have := b.isLt
  omega

theorem lowNibble_eq (b : Byte) : lowNibble b.toNat = (b.extractLsb' 0 4).toNat := by
  rw [extractLsb'_toNat_eq, lowNibble]
  omega

theorem halfAt_toNat (bs : List Byte) (i : Nat) :
    (halfAt bs i).toNat = 256 * (byteAt bs i).toNat + (byteAt bs (i + 1)).toNat := by
  have := (byteAt bs (i + 1)).isLt
  rw [halfAt, BitVec.toNat_append, ← Nat.shiftLeft_add_eq_or_of_lt this, Nat.shiftLeft_eq]
  omega

theorem portWord_eq (img : List Byte) (p : PortId) : portWord img p = (halfAt img (portBase p + 2)).toNat :=
  (halfAt_toNat img (portBase p + 2)).symm

/-! ### The range check -/

section
variable (img : List Byte)

theorem pointUsed_iff (d : PointId) : pointUsed img d = true ↔ UsedPoint img d := by
  rw [UsedPoint, getLsbD_seven_iff, pointUsed, decide_eq_true_iff]
  rfl

theorem sectionUsed_iff (n : SectionId) : sectionUsed img n = true ↔ UsedSection img n := by
  rw [UsedSection, getLsbD_seven_iff, sectionUsed, decide_eq_true_iff]
  rfl

theorem globalInRange_iff :
    globalInRange img = true ↔ (byteAt img 7).toNat ≤ 2 ∧ (byteAt img 8).toNat ≤ 2 ∧
      (2 ≤ (byteAt img 9).toNat ∧ (byteAt img 9).toNat ≤ 60) ∧ (1 ≤ (byteAt img 10).toNat ∧ (byteAt img 10).toNat ≤ 4) ∧
      (byteAt img 11).toNat ≤ 1 := by
  simp only [globalInRange, Bool.and_eq_true, decide_eq_true_eq, and_assoc]
  rfl

theorem portInRange_iff (p : PortId) :
    portInRange img p = true ↔
      (halfAt img (portBase p + 2)).extractLsb' 9 5 = 0 ∧
        5 ≤ ((halfAt img (portBase p + 2)).extractLsb' 0 9).toNat ∧
        ((halfAt img (portBase p + 2)).extractLsb' 0 9).toNat ≤ 500 := by
  simp only [portInRange, dwellCode, portWord_eq, Bool.and_eq_true, decide_eq_true_eq, and_assoc,
    extractLsb'_eq_zero_iff, extractLsb'_toNat_eq]
  omega

theorem sideInRange_iff (b : Byte) : sideInRange b.toNat = true ↔ b.toNat < 24 ∨ b = 0xFF := by
  simp [sideInRange, ← BitVec.toNat_inj]

theorem pointInRange_iff (d : PointId) :
    pointInRange img d = true ↔
      (UsedPoint img d →
        (byteAt img (12 + 6 * d.val)).extractLsb' 4 3 = 0 ∧ (byteAt img (12 + 6 * d.val)).extractLsb' 0 4 ≠ 0 ∧
        ((byteAt img (12 + 6 * d.val + 1)).toNat < 24 ∨ byteAt img (12 + 6 * d.val + 1) = 0xFF) ∧
        ((byteAt img (12 + 6 * d.val + 2)).toNat < 24 ∨ byteAt img (12 + 6 * d.val + 2) = 0xFF) ∧
        4 ≤ (byteAt img (12 + 6 * d.val + 4)).toNat ∧ (byteAt img (12 + 6 * d.val + 4)).toNat ≤ 50 ∧
        2 ≤ ((byteAt img (12 + 6 * d.val + 5)).extractLsb' 4 4).toNat ∧
        ((byteAt img (12 + 6 * d.val + 5)).extractLsb' 0 4).toNat ≤ 5) := by
  unfold pointInRange
  rw [Bool.or_eq_true, Bool.not_eq_true', ← Bool.not_eq_true, ← imp_iff_not_or, pointUsed_iff]
  refine imp_congr_right fun used => ?_
  have high : highNibble (byteAt img (12 + 6 * d.val)).toNat = 8 ↔
      (byteAt img (12 + 6 * d.val)).extractLsb' 4 3 = 0 := by
    have := (byteAt img (12 + 6 * d.val)).isLt
    have := (getLsbD_seven_iff _).mp used
    rw [extractLsb'_eq_zero_iff, highNibble]
    omega
  have low : 1 ≤ lowNibble (byteAt img (12 + 6 * d.val)).toNat ↔
      (byteAt img (12 + 6 * d.val)).extractLsb' 0 4 ≠ 0 := by
    rw [Ne, extractLsb'_eq_zero_iff, lowNibble]
    omega
  simp only [Bool.and_eq_true, decide_eq_true_eq, and_assoc]
  simp only [imageNat, pointBase, Nat.add_zero, high, low, sideInRange_iff,
    highNibble_eq (byteAt img (12 + 6 * d.val + 5)), lowNibble_eq (byteAt img (12 + 6 * d.val + 5))]

theorem sectionInRange_iff (n : SectionId) :
    sectionInRange img n = true ↔
      (UsedSection img n →
        (byteAt img (204 + 2 * n.val)).extractLsb' 2 5 = 0 ∧ (byteAt img (204 + 2 * n.val)).extractLsb' 0 2 ≠ 0 ∧
        (byteAt img (204 + 2 * n.val + 1)).toNat ≤ 200) := by
  unfold sectionInRange
  rw [Bool.or_eq_true, Bool.not_eq_true', ← Bool.not_eq_true, ← imp_iff_not_or, sectionUsed_iff]
  refine imp_congr_right fun used => ?_
  have := (byteAt img (204 + 2 * n.val)).isLt
  have := (getLsbD_seven_iff _).mp used
  simp only [Bool.and_eq_true, decide_eq_true_eq, Ne, extractLsb'_eq_zero_iff, Nat.reducePow, and_assoc]
  simp only [imageNat, sectionBase]
  omega

/-- Check 4 passes exactly when every field checked for range lies in it (R8, R184). -/
theorem rangeOk_iff_imageInRange : rangeOk img = true ↔ ImageInRange img := by
  rw [rangeOk_iff, globalInRange_iff]
  constructor
  · rintro ⟨⟨lineRate, portRate, window, limit, mode⟩, ports, points, sections⟩
    refine ⟨lineRate, portRate, window, limit, mode, fun i => ?_, fun d => (pointInRange_iff img d).mp (points d),
      fun n => (sectionInRange_iff img n).mp (sections n)⟩
    have := (portInRange_iff img _).mp (ports (portOfIndex i))
    rwa [portBase, portIndex_portOfIndex] at this
  · rintro ⟨lineRate, portRate, window, limit, mode, ports, points, sections⟩
    exact ⟨⟨lineRate, portRate, window, limit, mode⟩, fun p => (portInRange_iff img p).mpr (ports (portIndex p)),
      fun d => (pointInRange_iff img d).mpr (points d), fun n => (sectionInRange_iff img n).mpr (sections n)⟩

end

/-! ### The boundary lists (R3) -/

theorem sideOf_eq_some_iff (b : Byte) (n : SectionId) : sideOf b = some n ↔ b.toNat = n.val := by
  have := n.isLt
  unfold sideOf sectionOfByte
  split
  · rw [Option.some.injEq, Fin.ext_iff]
  · simp only [reduceCtorEq, false_iff]
    omega

theorem sideOf_eq_none_iff (b : Byte) : sideOf b = none ↔ 24 ≤ b.toNat := by
  unfold sideOf sectionOfByte
  split
  · simp only [reduceCtorEq, false_iff]
    omega
  · simp only [true_iff]
    omega

theorem sideNaming_isSome_iff (c : PointCfg) (n : SectionId) :
    (∃ side, c.sideNaming n = some side) ↔ c.sideA = some n ∨ c.sideB = some n := by
  unfold PointCfg.sideNaming
  split
  · simp [*]
  · split <;> simp [*]

section
variable (img : List Byte) (n : SectionId)

theorem pointEntry_eq_some_iff (d : PointId) (c : PointCfg) :
    pointEntry img d = some c ↔ UsedPoint img d ∧ c = pointCfgOf img d := by
  unfold pointEntry
  rw [← pointUsed_iff]
  split
  · simp [*, eq_comm (a := c)]
  · simp [*]

theorem mem_boundaryOf_iff (b : Boundary) :
    b ∈ boundaryOf img n ↔ UsedPoint img b.point ∧ (pointCfgOf img b.point).sideNaming n = some b.side := by
  simp only [boundaryOf, List.mem_filterMap, List.mem_finRange, true_and, Option.map_eq_some_iff,
    Option.bind_eq_some_iff, pointEntry_eq_some_iff]
  constructor
  · rintro ⟨d, side, ⟨c, ⟨used, rfl⟩, hside⟩, rfl⟩
    exact ⟨used, hside⟩
  · rintro ⟨used, hside⟩
    exact ⟨b.point, b.side, ⟨_, ⟨used, rfl⟩, hside⟩, rfl⟩

/-- A boundary list is in rising order of its points. -/
theorem boundaryOf_pairwise : (boundaryOf img n).Pairwise fun b c => b.point < c.point := by
  refine List.Pairwise.filterMap _ (fun d d' hd b hb c hc => ?_) (List.pairwise_lt_finRange 32)
  obtain ⟨-, -, rfl⟩ := Option.map_eq_some_iff.mp hb
  obtain ⟨-, -, rfl⟩ := Option.map_eq_some_iff.mp hc
  exact hd

theorem boundaryOf_points_nodup : ((boundaryOf img n).map Boundary.point).Nodup :=
  List.pairwise_map.mpr ((boundaryOf_pairwise img n).imp ne_of_lt)

theorem names_a_iff (d : PointId) : Names img d .a n ↔ UsedPoint img d ∧ (pointCfgOf img d).sideA = some n :=
  and_congr_right fun _ => (sideOf_eq_some_iff _ _).symm

theorem names_b_iff (d : PointId) : Names img d .b n ↔ UsedPoint img d ∧ (pointCfgOf img d).sideB = some n :=
  and_congr_right fun _ => (sideOf_eq_some_iff _ _).symm

theorem mem_boundaryOf_points_iff (d : PointId) :
    d ∈ (boundaryOf img n).map Boundary.point ↔ Names img d .a n ∨ Names img d .b n := by
  rw [names_a_iff, names_b_iff, ← and_or_left, ← sideNaming_isSome_iff]
  simp only [List.mem_map, mem_boundaryOf_iff]
  constructor
  · rintro ⟨b, ⟨used, hside⟩, rfl⟩
    exact ⟨used, b.side, hside⟩
  · rintro ⟨used, side, hside⟩
    exact ⟨⟨d, side⟩, ⟨used, hside⟩, rfl⟩

/-- The boundary list is the list that R9 counts, up to the order of its entries. -/
theorem namedByOneToSix_iff :
    NamedByOneToSix img n ↔ 1 ≤ (boundaryOf img n).length ∧ (boundaryOf img n).length ≤ 6 := by
  constructor
  · rintro ⟨ds, nodup, mem, hlen⟩
    have same : ds.length = (boundaryOf img n).length := by
      rw [← List.length_map (f := Boundary.point) (as := boundaryOf img n)]
      refine List.Perm.length_eq ((List.perm_ext_iff_of_nodup nodup (boundaryOf_points_nodup img n)).mpr fun d => ?_)
      rw [mem, mem_boundaryOf_points_iff]
    exact same ▸ hlen
  · intro hlen
    exact ⟨_, boundaryOf_points_nodup img n, mem_boundaryOf_points_iff img n, by simpa using hlen⟩

theorem sectionConsistent_iff :
    sectionConsistent img n = true ↔ (UsedSection img n → NamedByOneToSix img n) := by
  rw [namedByOneToSix_iff, ← sectionUsed_iff, sectionConsistent]
  cases sectionUsed img n <;> simp

end

/-! ### The check of the track plan -/

section
variable (img : List Byte) (d : PointId)

/-- Two side bytes in their range name the same section, or both none, only when they are the same byte. -/
theorem sideOf_inj {a b : Byte} (ha : a.toNat < 24 ∨ a = 0xFF) (hb : b.toNat < 24 ∨ b = 0xFF) :
    sideOf a = sideOf b ↔ a = b := by
  refine ⟨fun h => ?_, congrArg sideOf⟩
  cases hs : sideOf b with
  | none =>
    have h1 := (sideOf_eq_none_iff a).mp (h.trans hs)
    have h2 := (sideOf_eq_none_iff b).mp hs
    rw [ha.resolve_left (by omega), hb.resolve_left (by omega)]
  | some n =>
    have h1 := (sideOf_eq_some_iff a n).mp (h.trans hs)
    have h2 := (sideOf_eq_some_iff b n).mp hs
    exact BitVec.eq_of_toNat_eq (h1.trans h2.symm)

theorem sideConsistent_iff (x : Option SectionId) :
    sideConsistent img x = true ↔ ∀ n, x = some n → UsedSection img n := by
  cases x with
  | none => simp [sideConsistent]
  | some n => simp [sideConsistent, sectionUsed_iff]

theorem pointConsistent_iff (range : ImageInRange img) :
    pointConsistent img d = true ↔
      (UsedPoint img d → byteAt img (12 + 6 * d.val + 1) ≠ byteAt img (12 + 6 * d.val + 2) ∧
        (∀ side n, Names img d side n → UsedSection img n) ∧
        ((byteAt img (12 + 6 * d.val + 3)).extractLsb' 4 4).toNat ≤ 3 ∧
        ((byteAt img (12 + 6 * d.val + 3)).extractLsb' 0 4).toNat ≤ 3) := by
  unfold pointConsistent
  rw [Bool.or_eq_true, Bool.not_eq_true', ← Bool.not_eq_true, ← imp_iff_not_or, pointUsed_iff]
  refine imp_congr_right fun used => ?_
  obtain ⟨-, -, sideA, sideB, -⟩ := range.points d used
  have differ : (pointCfgOf img d).sideA ≠ (pointCfgOf img d).sideB ↔
      byteAt img (12 + 6 * d.val + 1) ≠ byteAt img (12 + 6 * d.val + 2) := not_congr (sideOf_inj sideA sideB)
  have named : (∀ side n, Names img d side n → UsedSection img n) ↔
      (∀ n, (pointCfgOf img d).sideA = some n → UsedSection img n) ∧
        ∀ n, (pointCfgOf img d).sideB = some n → UsedSection img n := by
    constructor
    · exact fun h => ⟨fun n hn => h .a n ((names_a_iff img n d).mpr ⟨used, hn⟩),
        fun n hn => h .b n ((names_b_iff img n d).mpr ⟨used, hn⟩)⟩
    · rintro ⟨ha, hb⟩ (_ | _) n hn
      · exact ha n ((names_a_iff img n d).mp hn).2
      · exact hb n ((names_b_iff img n d).mp hn).2
  simp only [Bool.and_eq_true, bne_iff_ne, decide_eq_true_eq, differ, sideConsistent_iff, named, and_assoc]
  simp only [imageNat, pointBase, highNibble_eq, lowNibble_eq]

/-- Check 5 passes, on an image in range, exactly when the plan has none of the failings of R9. -/
theorem topologyOk_iff_planConsistent (range : ImageInRange img) : topologyOk img = true ↔ PlanConsistent img := by
  simp only [topologyOk_iff, pointConsistent_iff img _ range, sectionConsistent_iff]
  constructor
  · rintro ⟨points, sections⟩
    exact ⟨fun d used => (points d used).1, fun d side n hn => (points d hn.1).2.1 side n hn,
      fun d used => (points d used).2.2, sections⟩
  · rintro ⟨sides, used, lines, named⟩
    exact ⟨fun d hd => ⟨sides d hd, fun side n hn => used d side n hn, lines d hd⟩, named⟩

end

/-- Settles O8: each check of the loader is the statement's condition, and the code is that of the first to fail. -/
theorem firstFailingCheckGivesCode : Obligations.FirstFailingCheckGivesCode := by
  unfold Obligations.FirstFailingCheckGivesCode
  intro img marker length crc
  have hmarker : markerOk img = true ↔ marker := beq_iff_eq
  have hlength : lengthOk img = true ↔ length := beq_iff_eq
  have hcrc : crcOk img = true ↔ crc := beq_iff_eq
  rw [← hmarker, ← hlength, ← hcrc, ← rangeOk_iff_imageInRange]
  by_cases range : rangeOk img = true
  · rw [← topologyOk_iff_planConsistent img ((rangeOk_iff_imageInRange img).mp range), imageFaultOf]
    cases markerOk img <;> cases lengthOk img <;> cases crcOk img <;> cases topologyOk img <;> simp [range]
  · rw [imageFaultOf]
    cases markerOk img <;> cases lengthOk img <;> cases crcOk img <;> simp [range]

end Sys2Proof.Proofs
end

section
/-! Proofs: the starts, the end of a load and the Time Base (chapter 1). -/

namespace Sys2Proof.Proofs

open Sys2Proof.Machine Sys2Proof.Safety Sys2Proof.Claims

/-! ### Settings of a good image, by their bytes (R10, R184) -/

section
variable (img : List Byte)

theorem imageNat_eq_iff (i : Nat) (b : Byte) : imageNat img i = b.toNat ↔ byteAt img i = b := BitVec.toNat_inj

theorem lineRateOf_eq :
    lineRateOf img = if byteAt img 7 = 0 then .r38400 else if byteAt img 7 = 1 then .r57600 else .r115200 := by
  simp only [← imageNat_eq_iff, lineRateOf]
  split <;> simp_all

theorem portRateOf_eq :
    portRateOf img = if byteAt img 8 = 0 then .r57600 else if byteAt img 8 = 1 then .r115200 else .r230400 := by
  simp only [← imageNat_eq_iff, portRateOf]
  split <;> simp_all

theorem arbModeOf_eq : arbModeOf img = if byteAt img 11 = 0 then .rotate else .fixed := by
  simp only [← imageNat_eq_iff, arbModeOf]
  split <;> simp_all

theorem portBase_eq (p : PortId) : portBase p = portEntryAt p := by cases p <;> rfl

theorem triggerOf_eq (p : PortId) :
    triggerOf img p =
      let code := (halfAt img (portEntryAt p + 2)).extractLsb' 14 2
      if code = 0 then 1 else if code = 1 then 8 else if code = 2 then 64 else 256 := by
  have value : portWord img p / 16384 = ((halfAt img (portEntryAt p + 2)).extractLsb' 14 2).toNat := by
    rw [extractLsb'_toNat_eq, portWord_eq, portBase_eq]
    have := (halfAt img (portEntryAt p + 2)).isLt
    omega
  have code : ∀ c : BitVec 2, (match c.toNat with
      | 0 => 1
      | 1 => 8
      | 2 => 64
      | _ => 256) = if c = 0 then 1 else if c = 1 then 8 else if c = 2 then 64 else 256 := by decide
  rw [triggerOf, value]
  exact code _

theorem dwellTimeOf_eq (p : PortId) :
    dwellTimeOf img p = 10 * ((halfAt img (portEntryAt p + 2)).extractLsb' 0 9).toNat := by
  rw [dwellTimeOf, dwellCode, portWord_eq, portBase_eq, extractLsb'_toNat_eq, Nat.pow_zero, Nat.div_one]
  rfl

/-- The attention settings that RUNNING takes are those of the port's entry (10.9). -/
theorem runningWatch_eq (p : PortId) (x : Watch) : runningWatch img (portIndex p) x = withEntry img p x := by
  unfold runningWatch withEntry
  rw [portOfIndex_portIndex, triggerOf_eq, dwellTimeOf_eq, maskOf, portBase_eq,
    BitVec.setWidth_eq_extractLsb' (by omega)]

end

theorem takeRate_eq (rate : PortRate) (x : Port) :
    x.takeRate rate =
      { x with
        rxRate := rate
        txRate := if x.answers = [] then rate else x.txRate
        asm := if x.rxRate = rate then x.asm else ⟨.search, [], none, x.asm.breakFlag⟩ } := by
  simp only [Port.takeRate, List.isEmpty_iff]
  rfl

/-! ### Entries of a good image -/

section
variable {img : List Byte}

theorem sideIs_sideOf {b : Byte} (range : b.toNat < 24 ∨ b = 0xFF) : SideIs b (sideOf b) := by
  cases h : sideOf b with
  | none =>
    have := (sideOf_eq_none_iff b).mp h
    exact range.resolve_left (by omega)
  | some n => exact (sideOf_eq_some_iff b n).mp h

theorem ofNat4_val_of_le {n : Nat} (h : n ≤ 3) : (Fin.ofNat 4 n).val = n := Nat.mod_eq_of_lt (by omega)

theorem pointCfgOf_entryIs {d : PointId} (range : ImageInRange img) (plan : PlanConsistent img)
    (used : UsedPoint img d) : PointEntryIs img d (pointCfgOf img d) := by
  obtain ⟨-, -, sideA, sideB, -⟩ := range.points d used
  obtain ⟨primary, secondary⟩ := plan.lines d used
  rw [← highNibble_eq] at primary
  rw [← lowNibble_eq] at secondary
  exact ⟨sideIs_sideOf sideA, sideIs_sideOf sideB, (ofNat4_val_of_le primary).trans (highNibble_eq _),
    (ofNat4_val_of_le secondary).trans (lowNibble_eq _), lowNibble_eq _, rfl, highNibble_eq _, lowNibble_eq _⟩

theorem sectionCfgOf_entryIs (img : List Byte) (n : SectionId) : SectionEntryIs img n (sectionCfgOf img n) :=
  ⟨rfl, rfl, rfl⟩

theorem sideNaming_eq_some_iff {c : PointCfg} (differ : c.sideA ≠ c.sideB) (n : SectionId) (side : Side) :
    c.sideNaming n = some side ↔ match side with
      | .a => c.sideA = some n
      | .b => c.sideB = some n := by
  have other : c.sideA = some n → c.sideB ≠ some n := fun ha hb => differ (ha.trans hb.symm)
  unfold PointCfg.sideNaming
  cases side <;> split_ifs <;> simp_all

/-- In a consistent plan a boundary list holds a point with the side on which it names the section (R3). -/
theorem mem_boundaryOf_iff_names (range : ImageInRange img) (plan : PlanConsistent img) (n : SectionId)
    (b : Boundary) : b ∈ boundaryOf img n ↔ Names img b.point b.side n := by
  obtain ⟨d, side⟩ := b
  rw [mem_boundaryOf_iff]
  by_cases used : UsedPoint img d
  · obtain ⟨-, -, rangeA, rangeB, -⟩ := range.points d used
    have differ : (pointCfgOf img d).sideA ≠ (pointCfgOf img d).sideB :=
      fun h => plan.sides d used ((sideOf_inj rangeA rangeB).mp h)
    rw [sideNaming_eq_some_iff differ]
    cases side with
    | a => exact (names_a_iff img n d).symm
    | b => exact (names_b_iff img n d).symm
  · exact iff_of_false (fun h => used h.1) fun h => used h.1

theorem startPoint_of_used {d : PointId} (used : UsedPoint img d) (x : Point) :
    startPoint img d x = { Point.cold with cfg := some (pointCfgOf img d), mode := .hunt, stats := x.stats } := by
  simp only [startPoint, pointEntry, (pointUsed_iff img d).mpr used, if_true]

theorem startPoint_of_unused {d : PointId} (unused : ¬ UsedPoint img d) (x : Point) :
    startPoint img d x = { Point.cold with stats := x.stats } := by
  rw [← pointUsed_iff, Bool.not_eq_true] at unused
  simp only [startPoint, pointEntry, unused]
  rfl

theorem startSection_of_used {n : SectionId} (used : UsedSection img n) :
    startSection img n = { Section.cold with
      cfg := some (sectionCfgOf img n), mode := .disturbed .start, boundary := boundaryOf img n } := by
  simp only [startSection, sectionEntry, (sectionUsed_iff img n).mpr used, if_true]

theorem startSection_of_unused {n : SectionId} (unused : ¬ UsedSection img n) : startSection img n = Section.cold := by
  rw [← sectionUsed_iff, Bool.not_eq_true] at unused
  simp only [startSection, sectionEntry, unused]
  rfl

end

/-! ### The end of a load -/

theorem execLoadEnd_starting {s : State} (high : s.resetLow = false) (starting : s.part = .starting)
    (image : List Byte) : exec (.loadEnd image) s = .next (settle (endLoad image s)) := by
  have can : (s.live && s.part == .starting) = true := by simp [State.live, high, starting]
  change event _ _ s = _
  rw [can, event_true]

/-- Settles O6: each table of the state after the load is read off `enterRunning`, and each image value by its bytes. -/
theorem loadEndEntersRunning : Obligations.LoadEndEntersRunning := by
  unfold Obligations.LoadEndEntersRunning
  intro image s high starting good
  refine ⟨_, execLoadEnd_starting high starting image, ?_⟩
  intro img rate
  obtain ⟨marker, -, -, rangeOk, topology⟩ := (imageFaultOf_eq_none_iff img).mp good
  have range := (rangeOk_iff_imageInRange img).mp rangeOk
  have plan := (topologyOk_iff_planConsistent img range).mp topology
  have label : keptLabel img = halfAt img 3 := if_pos marker
  have hrate : portRateOf img = rate := portRateOf_eq img
  have used : ∀ n, UsedSection img n → 1 ≤ (boundaryOf img n).length ∧ (boundaryOf img n).length ≤ 6 := fun n hn =>
    (namedByOneToSix_iff img n).mp (plan.named n hn)
  rw [endLoad_of_good s good]
  refine ⟨?_, settle_attentionSound _, ?_, fun l => ?_, fun d hd => ?_, fun d hd => ?_, fun n hn => ?_, fun n hn => ?_,
    fun k => ?_, fun p => ?_, fun p => ?_⟩
  · rw [← lineRateOf_eq, ← arbModeOf_eq, ← label]
    simp only [loadJudged, good]
    rfl
  · exact congrArg (fun x => s.journal.push s.time (.start s.startKind x .none)) label
  · rw [settle_line, append_line, enterRunning_line]
    rfl
  · refine ⟨_, pointCfgOf_entryIs range plan hd, ?_⟩
    rw [settle_point, append_point, enterRunning_point, startPoint_of_used hd]
    rfl
  · rw [settle_point, append_point, enterRunning_point, startPoint_of_unused hd]
    rfl
  · rw [settle_sec, append_sec, enterRunning_sec, startSection_of_used hn]
    exact ⟨⟨_, sectionCfgOf_entryIs img n, rfl⟩, mem_boundaryOf_iff_names range plan n, boundaryOf_pairwise img n,
      used n hn⟩
  · rw [settle_sec, append_sec, enterRunning_sec, startSection_of_unused hn]
  · rw [settle_slot, append_slot, enterRunning_slot]
  · rw [settle_port, append_port, enterRunning_port, runningPort, hrate, takeRate_eq, thresholdOf,
      portOfIndex_portIndex, portBase_eq]
    rfl
  · rw [settle_watch, append_watch, enterRunning_watch, runningWatch_eq]
    rfl

/-- Settles O7: each table of the state after the load is read off `enterUnconfigured`. -/
theorem loadEndEntersUnconfigured : Obligations.LoadEndEntersUnconfigured := by
  unfold Obligations.LoadEndEntersUnconfigured
  intro image s high starting bad
  refine ⟨_, execLoadEnd_starting high starting image, ?_⟩
  intro fault label
  have hlabel : keptLabel (presented image) = label := by
    have : fault = .noImage ↔ ¬ markerOk (presented image) = true := by
      simp only [fault, imageFaultOf]
      cases markerOk (presented image)
      · simp
      · simp only [Bool.not_true, Bool.false_eq_true, if_false]
        split_ifs <;> simp
    simp only [label, this, keptLabel, labelOf, ite_not]
  rw [endLoad_of_fault s bad, hlabel]
  refine ⟨?_, settle_attentionSound _, rfl, fun l => ?_, fun d => ?_, fun n => ?_, fun k => ?_, fun p => ?_,
    fun p => ?_⟩
  · simp only [loadJudged, hlabel]
    rfl
  · rw [settle_line, append_line, enterUnconfigured_line]
    rfl
  · rw [settle_point, append_point, enterUnconfigured_point]
    rfl
  · rw [settle_sec, append_sec, enterUnconfigured_sec]
  · rw [settle_slot, append_slot, enterUnconfigured_slot]
  · rw [settle_port, append_port, enterUnconfigured_port, takeRate_eq]
    rfl
  · rw [settle_watch, append_watch, enterUnconfigured_watch]
    rfl

/-! ### The warm start -/

theorem slotAnswers_take_add_drop (k : Nat) (as : List Answer) :
    slotAnswers (as.take k) + slotAnswers (as.drop k) = slotAnswers as := by
  simp only [slotAnswers]
  rw [← List.length_append, ← List.filter_append, List.take_append_drop]

/-- A warm start at a sound port that is not MNT keeps the answer in transmission and its slot alone (R16). -/
theorem warmPort_of_ne {p : PortId} (hp : p ≠ .mnt) {x : Port} (sound : PortSound x) :
    warmPort p x =
      { x with
        isolated := false, errorLevel := 0, queue := [], answers := x.answers.take 1
        outstanding := slotAnswers (x.answers.take 1), view := .sections, viewCursor := 0, threshold := 16 } := by
  have slots := slotAnswers_take_add_drop 1 x.answers
  have kept : x.outstanding - x.queue.length - slotAnswers (x.answers.drop 1) = slotAnswers (x.answers.take 1) := by
    rw [sound.outstanding_eq]
    omega
  simp only [warmPort, Port.dropUnsent, Port.dropQueue, inTransmission, hp, if_false, kept]
  rfl

/-- A warm start at MNT, whose first answer has just left, keeps no answer and no slot (R16). -/
theorem warmPort_sent {x : Port} (sound : PortSound x) :
    warmPort .mnt x.sent =
      { x with
        isolated := false, errorLevel := 0, queue := [], answers := [], outstanding := 0
        view := .sections, viewCursor := 0, txRate := x.rxRate, threshold := 16 } := by
  have slots := slotAnswers_take_add_drop 1 x.answers
  have none : x.outstanding - slotAnswers (x.answers.take 1) - x.queue.length - slotAnswers (x.answers.drop 1) = 0 := by
    rw [sound.outstanding_eq]
    omega
  simp only [warmPort, Port.dropUnsent, Port.dropQueue, Port.sent, inTransmission, if_true, List.take_zero,
    List.drop_zero, ← List.drop_one, none]
  rfl

theorem restartSending_iff {s : State} {a : Answer} {rest : List Answer} (h : (s.port .mnt).answers = a :: rest) :
    restartSending s = true ↔ a.kind = .servedRestart := by
  simp [restartSending, h]

/-- WARM_START, and ANSWER_SENT of MNT, where the answer that leaves is the OK of RESTART (log 14). -/
theorem exec_restartSent {c : Instr} {s : State} {a : Answer} {rest : List Answer}
    (hc : c = .warmStart ∨ c = .answerSent .mnt) (high : s.resetLow = false)
    (answers : (s.port .mnt).answers = a :: rest) (ok : a.kind = .servedRestart) :
    exec c s = .next (settle (restartSent s)) := by
  have sending := (restartSending_iff answers).mpr ok
  obtain rfl | rfl := hc
  · change event _ _ s = _
    rw [sending, State.live, high]
    rfl
  · change event _ _ s = _
    rw [answers, State.live, high, if_pos ⟨rfl, sending⟩]
    rfl

/-- Settles O9: the tables after a warm start, with the outstanding counts of R154 in sound ports. -/
theorem warmStartSets : Obligations.WarmStartSets := by
  unfold Obligations.WarmStartSets
  intro c s a rest hc high sound answers ok
  refine ⟨_, exec_restartSent hc high answers ok, rfl, settle_attentionSound _, fun l => ?_, fun d => ?_, fun n => ?_,
    fun k => ?_, fun p => ?_, fun p => ?_⟩
  · rw [settle_line, restartSent, warmStart_line]
    rfl
  · rw [settle_point, restartSent_point]
    rfl
  · rw [settle_sec, restartSent, warmStart_sec]
    rfl
  · rw [settle_slot, restartSent_slot]
  · rw [settle_port, restartSent, warmStart_port, sendHead]
    by_cases hp : p = .mnt
    · subst hp
      rw [State.setPort_same, warmPort_sent (sound .mnt)]
      simp only [if_true]
    · rw [State.setPort_ne _ _ _ _ hp, warmPort_of_ne hp (sound p)]
      simp only [hp, if_false]
  · rw [settle_watch, restartSent, warmStart_watch]
    rfl

end Sys2Proof.Proofs
end

section
/-! Proofs: cold start, the reset input, the Time Base, and the state after reset (chapter 1). -/

namespace Sys2Proof.Proofs

open Sys2Proof.Machine Sys2Proof.Safety Sys2Proof.Claims

/-! ### An event that cannot take place -/

theorem event_of_not {can : Bool} {eff : State → State} {s : State} (h : can = false) : event can eff s = .next s := by
  rw [h, event_false]

/-- While the engine is not ready, no request is taken (R157). -/
theorem engineTakes_of_not_ready {s : State} (h : engineReady s = false) (kind : RequestKind) :
    engineTakes kind s = false := by
  rw [engineTakes, h, Bool.false_and]

theorem engineStep_of_not_ready {s : State} (h : engineReady s = false) (kind : RequestKind)
    (rule : PortId → Request → State → Reply) : engineStep kind rule s = .next s :=
  event_of_not (engineTakes_of_not_ready h kind)

/-- Every request command is the engine's step with the rule of its kind. -/
theorem exec_of_commandOf {k : RequestKind} {c : Instr} (h : commandOf k = some c) :
    ∃ rule, ∀ s, exec c s = engineStep k rule s := by
  cases k
  case rejoin => exact nomatch h
  all_goals exact Option.some.inj h ▸ ⟨_, fun _ => rfl⟩

/-! ### Cold start (R12) -/

theorem coldPort_eq (low : Bool) :
    coldPort low = ⟨false, 0, ⟨.search, [], none, low⟩, [], [], 0, .sections, 0, .r57600, .r57600, 16⟩ := rfl

/-- With no record, a trigger level of 1, and no latch set, no cause is pending (R132, R168). -/
theorem attentionOf_coldStart (low : PortLevels) (s : State) (p : PortId) :
    attentionOf (coldStart low s) p = false := by
  rw [← Bool.not_eq_true, attentionOf_eq_true, pendingCauses_and_ne_zero, coldStart_port, coldStart_watch]
  simp [coldPort_eq, Watch.cold, coldStart, Journal.empty]

/-- The end of the break that a low receive line began (R12, R148). -/
theorem exec_portBreakEnd {s : State} {p : PortId} (high : s.resetLow = false)
    (inBreak : (s.port p).asm.breakFlag = true) :
    ∃ t, exec (.portBreakEnd p) s = .next t ∧
      Settled t (withPort s p fun x => { x with asm := ⟨.search, [], none, false⟩ }) := by
  unfold exec execPortBreakEnd
  exact settled_event (by simp [State.live, high, inBreak]) rfl

/-- Settles O5: each table after a cold start, read off `coldStart`. -/
theorem coldStartSets : Obligations.ColdStartSets := by
  unfold Obligations.ColdStartSets
  intro low s
  refine ⟨settle (coldStart low s), rfl, rfl, rfl, rfl, fun seq => ?_, fun l => ?_, fun d => ?_, fun n => ?_,
    fun k => ?_, fun p => ?_, fun p => ?_, fun p => ?_, fun p hp => ?_⟩
  · exact tget_replicate _ _
  · rw [settle_line, coldStart_line]
    rfl
  · rw [settle_point, coldStart_point]
    rfl
  · rw [settle_sec, coldStart_sec]
    rfl
  · rw [settle_slot, coldStart_slot]
  · rw [settle_port, coldStart_port, coldPort_eq]
  · rw [settle_watch, coldStart_watch]
    rfl
  · rw [settle_attn, attentionOf_coldStart]
  · refine exec_portBreakEnd rfl ?_
    rw [settle_port, coldStart_port, coldPort_eq, hp]

/-! ### The reset input (R11) -/

section
variable {s : State} (low : s.resetLow = true)
include low

theorem live_of_low : s.live = false := by rw [State.live, low]; rfl

theorem inService_of_low : s.inService = false := by rw [State.inService, live_of_low low]; rfl

theorem lineTakes_of_low (l : LineId) (early : Bool) : lineTakes l early s = false := by
  rw [lineTakes, inService_of_low low]; rfl

theorem portTakes_of_low (p : PortId) : portTakes p s = false := by rw [portTakes, live_of_low low]; rfl

theorem engineReady_of_low : engineReady s = false := by rw [engineReady, live_of_low low]; rfl

/-- While the reset input is low, only a start, the reset input and the Time Base act (log 7). -/
theorem exec_of_low {c : Instr} (notStart : ∀ levels, c ≠ .coldStart levels) (notReset : c ≠ .resetInputLow)
    (notTick : c ≠ .timeBaseMillisecond) : exec c s = .next s := by
  have live := live_of_low low
  have service := inService_of_low low
  have request := engineStep_of_not_ready (engineReady_of_low low)
  cases c with
  | coldStart levels => exact absurd rfl (notStart levels)
  | resetInputLow => exact absurd rfl notReset
  | timeBaseMillisecond => exact absurd rfl notTick
  | trkGoodCharacter l b early => exact event_of_not (lineTakes_of_low low l early)
  | trkFramingError l early =>
    unfold exec execTrkFramingError
    exact event_of_not (lineTakes_of_low low l early)
  | trkBreak l early =>
    unfold exec execTrkBreak
    exact event_of_not (lineTakes_of_low low l early)
  | portGoodCharacter p b => exact event_of_not (portTakes_of_low low p)
  | portFramingError p => exact event_of_not (portTakes_of_low low p)
  | portBreak p => exact event_of_not (portTakes_of_low low p)
  | rejoin p tag => exact event_of_not (by simp [portTakes_of_low low p])
  | dwellTimerExpiry p =>
    unfold exec execDwellTimerExpiry
    exact event_of_not (by simp [live])
  | portBreakEnd p =>
    unfold exec execPortBreakEnd
    exact event_of_not (by simp [live])
  | trkBreakEnd l =>
    unfold exec execTrkBreakEnd
    exact event_of_not (by simp [service])
  | trkGapTimeout l =>
    unfold exec execTrkGapTimeout
    exact event_of_not (by simp [service])
  | lineSilenceExpiry l =>
    unfold exec execLineSilenceExpiry
    exact event_of_not (by simp [service])
  | loadEnd | warmStart | portGapTimeout | answerSent => exact event_of_not (by simp [live])
  | telegramDelivery | pointSilenceExpiry | handOff | clearingTimerExpiry | confirmWindowExpiry =>
    exact event_of_not (by simp [service])
  | status | summary | readSection | readPoint | readLine | selectView | readNext | journalRead | journalSeek | identify
  | setMask | setInhibit | proposeReset | confirmReset | cancelReset | clearStatistics | restart => exact request _ _

end

/-- Settles O4: with the input low no line is asserted and no port sends, and no other command finds its condition. -/
theorem resetInputLowHoldsInactive : Obligations.ResetInputLowHoldsInactive := by
  unfold Obligations.ResetInputLowHoldsInactive
  refine ⟨fun s => ⟨settle { s with resetLow := true, memSelect := false }, rfl, rfl, fun p => ?_, fun p => rfl⟩,
    fun c s low => exec_of_low low⟩
  rw [settle_attn]
  rfl

/-! ### The Time Base (R5) -/

/-- A tick moves the count and the timers of lines, points, sections, transactions and ports, and nothing else. -/
theorem tick_only (s : State) :
    tick s = { s with
      time := s.time + 1
      lines := (tick s).lines
      points := (tick s).points
      sections := (tick s).sections
      slots := (tick s).slots
      ports := (tick s).ports
      watches := (tick s).watches } := by
  unfold tick
  cases s.inService <;> cases s.live <;> rfl

theorem tick_of_not_clearing {m : SectionMode} (h : m.name ≠ .clearing) : m.tick = m := by
  cases m with
  | clearing r => exact absurd rfl h
  | _ => rfl

/-- Settles O10: the timers by the tables after a tick, with the reset input and the part state as its conditions. -/
theorem timeBaseCounts : Obligations.TimeBaseCounts := by
  unfold Obligations.TimeBaseCounts
  intro s
  refine ⟨settle (tick s), rfl, ?_, settle_attentionSound _, fun high p => ?_, fun low p => ?_, fun service => ?_,
    fun stopped => ?_⟩
  · exact congrArg (fun u : State => { u with attention := (settle (tick s)).attention }) (tick_only s)
  · have live : s.live = true := by rw [State.live, high]; rfl
    simp only [settle_port, settle_watch, tick_port, tick_watch, live, if_true]
    exact ⟨rfl, rfl⟩
  · simp only [settle_port, settle_watch, tick_port, tick_watch, live_of_low low]
    exact ⟨rfl, rfl⟩
  · have service := (inService_iff s).mpr service
    refine ⟨fun l => ?_, fun d => ?_, fun n r mode => ?_, fun n mode => ?_, fun k => ?_⟩
    · rw [settle_line, tick_line, if_pos service]
      rfl
    · rw [settle_point, tick_point, if_pos service]
      rfl
    · rw [settle_sec, tick_sec, if_pos service, mode]
      rfl
    · rw [settle_sec, tick_sec, if_pos service, tick_of_not_clearing mode]
    · rw [settle_slot, tick_slot, if_pos service]
  · have stopped : ¬ s.inService = true := fun h => stopped ((inService_iff s).mp h)
    refine ⟨fun l => ?_, fun d => ?_, fun n => ?_, fun k => ?_⟩
    · rw [settle_line, tick_line, if_neg stopped]
    · rw [settle_point, tick_point, if_neg stopped]
    · rw [settle_sec, tick_sec, if_neg stopped]
    · rw [settle_slot, tick_slot, if_neg stopped]

/-! ### The state after reset -/

section
@[simp] theorem reset_line (l : LineId) : State.reset.line l = .cold := tget_replicate _ _
@[simp] theorem reset_point (d : PointId) : State.reset.point d = .cold := tget_replicate _ _
@[simp] theorem reset_sec (n : SectionId) : State.reset.sec n = .cold := tget_replicate _ _
@[simp] theorem reset_slot (k : SlotId) : State.reset.slot k = none := tget_replicate _ _
@[simp] theorem reset_port (p : PortId) : State.reset.port p = .cold := tget_replicate _ _
@[simp] theorem reset_watch (p : PortId) : State.reset.watch p = .cold := tget_replicate _ _
@[simp] theorem reset_writeSeq : State.reset.journal.writeSeq = 0 := rfl
@[simp] theorem reset_attn (p : PortId) : State.reset.attn p = false := tget_replicate _ _
end

theorem reset_attentionSound : AttentionSound State.reset := fun p => by
  simp [UnmaskedCause, Port.cold, Watch.cold]

theorem reset_journalSound : JournalSound State.reset where
  held_le := Nat.zero_le _
  kept k hk := absurd hk (Nat.not_lt_zero k)
  unread_le p := by simp [State.unread, unread, Watch.cold]
  slip_le p := by simp [Watch.cold]

theorem cold_portSound : PortSound .cold :=
  ⟨rfl, Nat.zero_le _, Nat.zero_le _, Nat.zero_le _, fun _ => rfl, Nat.zero_le _⟩

theorem idle_assemblerSound : AssemblerSound .idle := ⟨fun _ => ⟨rfl, rfl⟩, fun h => nomatch h⟩

theorem cold_lineSound : LineSound .cold :=
  ⟨idle_assemblerSound, Nat.zero_le _, rfl, Nat.zero_le _, Nat.zero_le _, Nat.zero_le _, Nat.zero_le _, Nat.zero_le _⟩

theorem reset_receptionSound : ReceptionSound State.reset where
  lines l := by simpa using cold_lineSound
  ports p := by simpa [Port.cold] using idle_assemblerSound
  frame p h := by simp [Port.cold, Assembler.idle] at h

theorem cold_sectionSound : SectionSound .cold :=
  ⟨Nat.zero_le _, Nat.zero_le _, Nat.zero_le _, Nat.zero_le _, (fun h => nomatch h), (fun h => nomatch h),
    (fun h => nomatch h)⟩

theorem reset_planSound : PlanSound State.reset := fun n b hb => by simp [Section.cold] at hb

theorem reset_syncSound : SyncSound State.reset where
  plan := reset_planSound
  in_sync n ruled := by simp [Section.cold, SectionMode.ruled] at ruled

theorem reset_passageSound : PassageSound State.reset where
  plan := reset_planSound
  passage n used := by simp [Section.cold] at used

/-- Settles O3: at reset nothing is held, counted, open or used. -/
theorem resetIsSound : Obligations.ResetIsSound := by
  unfold Obligations.ResetIsSound
  refine ⟨reset_attentionSound, reset_journalSound, fun p => ?_, reset_receptionSound, fun d => ?_, fun n => ?_,
    reset_syncSound, reset_passageSound, txnSound_of_free (Nat.zero_le _) reset_slot⟩
  · rw [reset_port]
    exact cold_portSound
  · rw [reset_point]
    exact pointSound_unused entrySound_none .zero
  · rw [reset_sec]
    exact cold_sectionSound

end Sys2Proof.Proofs
end

section
/-! Proofs: requests and answers (chapters 1 and 8): what a served request leaves, STATUS, SUMMARY, CLEAR STATISTICS,
RESTART, and the answer that has been sent. -/

namespace Sys2Proof.Proofs

open Sys2Proof.Machine Sys2Proof.Safety Sys2Proof.Claims

/-! ### One request taken and answered (R157) -/

theorem tset_tset {α : Type} {n : Nat} (t : Vector α n) (i : Fin n) (x y : α) :
    tset (tset t i x) i y = tset t i y := table_ext fun j => by
  by_cases h : j = i
  · simp [h]
  · simp [tget_tset_ne _ _ h]

theorem setPort_setPort (s : State) (p : PortId) (x y : Port) : (s.setPort p x).setPort p y = s.setPort p y := by
  simp only [State.setPort, tset_tset]

section
variable {s : State} {p : PortId} {r : Request} {queue : List Request} {one : RingOne} {two : RingTwo}

/-- The answer of a served request, placed: the request is gone and the answer waits last (R155, R157). -/
theorem placeAnswer_takeRequest (hq : (s.port p).queue = r :: queue) (a : Answer) :
    placeAnswer p a (takeRequest p one two s) =
      { s with arbOne := one, arbTwo := two }.setPort p
        { s.port p with queue := queue, answers := (s.port p).answers ++ [a] } := by
  have taken : takeRequest p one two s = { s with arbOne := one, arbTwo := two }.setPort p
      { s.port p with queue := queue } := by
    rw [takeRequest, hq]
    rfl
  rw [taken, placeAnswer, State.setPort_same, setPort_setPort]

theorem placeAnswer_served (hq : (s.port p).queue = r :: queue) (result : ResultCode) (payload : List Byte) :
    placeAnswer p ⟨.served, r.tag, result, payload⟩ (takeRequest p one two s) =
      Answered s p r queue one two result payload := placeAnswer_takeRequest hq _

theorem queue_of_takes (h : Takes s p r queue one two) : (s.port p).queue = r :: queue := by
  obtain ⟨-, -, -, -, -, hq⟩ := h
  exact hq

theorem started_of_takes (h : Takes s p r queue one two) : s.part ≠ .starting := by
  obtain ⟨-, started, -⟩ := h
  exact started

theorem engineReady_iff (s : State) :
    engineReady s = true ↔ s.resetLow = false ∧ s.part ≠ .starting ∧ s.restartServed = false ∧
      ∀ h, s.handOff = some h → h.stage = .waiting := by
  have idle : handOffUnderWay s = false ↔ ∀ h, s.handOff = some h → h.stage = .waiting := by
    unfold handOffUnderWay
    split <;> simp_all
  simp only [engineReady, State.live, Bool.and_eq_true, Bool.not_eq_true', bne_iff_ne, idle, and_assoc, Ne]

/-- The engine's step where it takes a request: the request served, its answer placed, the lines decided again. -/
theorem engineStep_of_takes (h : Takes s p r queue one two) (rule : PortId → Request → State → Reply) :
    engineStep r.kind rule s = .next (settle (serve rule p r (takeRequest p one two s))) := by
  obtain ⟨high, started, unserved, idle, chosen, hq⟩ := h
  have next : nextRequest s = some (p, r, one, two) := by simp [nextRequest, chosen, hq]
  have takes : engineTakes r.kind s = true := by
    rw [engineTakes, (engineReady_iff s).mpr ⟨high, started, unserved, idle⟩, next]
    simp
  rw [engineStep, takes, event_true, takeAndServe, next]

theorem examine_not_permitted {rule : PortId → Request → State → Reply} (h : permitted p r.kind = false) (t : State) :
    examine rule p r t = refuse .notPermitted t := by simp [examine, h]

theorem examine_not_configured {rule : PortId → Request → State → Reply} (h : permitted p r.kind = true) {t : State}
    (part : t.part = .unconfigured) (needs : servedUnconfigured r.kind = false) :
    examine rule p r t = refuse .notConfigured t := by simp [examine, h, part, needs]

theorem examine_rule {rule : PortId → Request → State → Reply} (h : permitted p r.kind = true) {t : State}
    (served : t.part = .unconfigured → servedUnconfigured r.kind = true) :
    examine rule p r t = rule p r t := by
  have : ¬ (t.part = .unconfigured ∧ servedUnconfigured r.kind = false) := fun ⟨part, needs⟩ => by
    simp [served part] at needs
  simp [examine, h, this]

theorem serve_of_reply {rule : PortId → Request → State → Reply} {t : State} {reply : Reply}
    (h : examine rule p r t = reply) :
    serve rule p r t =
      placeAnswer p ⟨answerKind r.kind reply.result, r.tag, reply.result, reply.payload⟩ reply.state := by
  rw [serve, h]

/-- A request refused by a result other than OK is answered with it, and nothing else changes. -/
theorem engineStep_refused (h : Takes s p r queue one two) {rule : PortId → Request → State → Reply}
    {result : ResultCode} (bad : result ≠ .ok)
    (refused : examine rule p r (takeRequest p one two s) = refuse result (takeRequest p one two s)) :
    ∃ t, engineStep r.kind rule s = .next t ∧ Settled t (Answered s p r queue one two result []) := by
  have kind : answerKind r.kind result = .served := by simp [answerKind, bad]
  refine ⟨_, engineStep_of_takes h rule, ?_⟩
  rw [serve_of_reply refused]
  simp only [refuse, kind, placeAnswer_served (queue_of_takes h)]
  exact settled_settle _

end

/-! ### Access rights and the part state (R158, R159) -/

theorem permitted_iff (p : PortId) (k : RequestKind) : permitted p k = true ↔ ¬ Forbidden p k := by
  cases k <;> cases p <;> simp [permitted, Forbidden, port_beq]

theorem servedUnconfigured_iff (k : RequestKind) : servedUnconfigured k = true ↔ NeedsNoConfiguration k := by
  cases k <;> simp [servedUnconfigured, NeedsNoConfiguration]

/-- Settles O45: the order of `examine`, with the table of R159 and the list of R15. -/
theorem rightsThenPartState : Obligations.RightsThenPartState := by
  unfold Obligations.RightsThenPartState
  intro s p r queue one two c takes command
  obtain ⟨rule, exec_eq⟩ := exec_of_commandOf command
  rw [exec_eq]
  constructor
  · intro forbidden
    have right : permitted p r.kind = false := by
      rw [← Bool.not_eq_true, permitted_iff]
      exact not_not_intro forbidden
    exact engineStep_refused takes (by decide) (examine_not_permitted right _)
  · intro allowed part needs
    have served : servedUnconfigured r.kind = false := by
      rw [← Bool.not_eq_true, servedUnconfigured_iff]
      exact needs
    exact engineStep_refused takes (by decide) (examine_not_configured ((permitted_iff _ _).mpr allowed) part served)

/-! ### Fields of the answers (10.4) -/

theorem byteOf_append_byteOf (n : Nat) : byteOf (n / 256) ++ byteOf n = BitVec.ofNat 16 n := by
  apply BitVec.eq_of_toNat_eq
  have small : (byteOf n).toNat < 2 ^ 8 := (byteOf n).isLt
  rw [BitVec.toNat_append, ← Nat.shiftLeft_add_eq_or_of_lt small, Nat.shiftLeft_eq]
  simp only [byteOf, BitVec.toNat_ofNat]
  omega

theorem half_append_half (w : Word) : BitVec.ofNat 16 (w.toNat / 65536) ++ BitVec.ofNat 16 w.toNat = w := by
  apply BitVec.eq_of_toNat_eq
  have low : (BitVec.ofNat 16 w.toNat).toNat < 2 ^ 16 := (BitVec.ofNat 16 w.toNat).isLt
  have := w.isLt
  rw [BitVec.toNat_append, ← Nat.shiftLeft_add_eq_or_of_lt low, Nat.shiftLeft_eq]
  simp only [BitVec.toNat_ofNat]
  omega

/-- Four bytes of a 32-bit field, high byte first, are the field (R179). -/
theorem be32_bytes (w : Word) :
    (byteOf (w.toNat / 16777216) ++ byteOf (w.toNat / 65536) : Half) ++
      (byteOf (w.toNat / 256) ++ byteOf w.toNat : Half) = w := by
  have high := byteOf_append_byteOf (w.toNat / 65536)
  rw [Nat.div_div_eq_div_mul] at high
  rw [byteOf_append_byteOf, high, half_append_half]

theorem byteOf_toNat {n : Nat} (h : n < 256) : (byteOf n).toNat = n := Nat.mod_eq_of_lt h

/-! ### STATUS (R17) -/

theorem table_toList {α : Type} {n : Nat} (t : Vector α n) : t.toList = (List.finRange n).map (tget t) := by
  apply List.ext_getElem <;> simp [tget]

theorem countPoints_eq (name : PointName) (s : State) : countPoints name s = pointsIn name s := by
  rw [countPoints, table_toList, ← List.countP_eq_length_filter, List.countP_map]
  rfl

theorem byteOf_countPoints (name : PointName) (s : State) : (byteOf (countPoints name s)).toNat = pointsIn name s := by
  have : pointsIn name s ≤ 32 := List.countP_le_length.trans (by simp)
  rw [countPoints_eq, byteOf_toNat (by omega)]

theorem statusRecord_takeRequest (p : PortId) (one : RingOne) (two : RingTwo) (s : State) :
    statusRecord p (takeRequest p one two s) = statusRecord p s := by
  have level : ((takeRequest p one two s).port p).errorLevel = (s.port p).errorLevel := by
    rw [takeRequest, State.port, State.setPort, tget_tset_same]
  simp only [statusRecord, level]
  rfl

theorem imageFaultCode_mem (x : ImageFault) : (x, imageFaultCode x) ∈ faultCodes := by cases x <;> decide

/-- An OK that changes nothing but the answer placed: STATUS and the requests that read. -/
theorem engineStep_okay {s : State} {p : PortId} {r : Request} {queue : List Request} {one : RingOne} {two : RingTwo}
    (h : Takes s p r queue one two) {rule : PortId → Request → State → Reply} (kind : r.kind ≠ .restart)
    {payload : List Byte}
    (reply : examine rule p r (takeRequest p one two s) = okay payload (takeRequest p one two s)) :
    ∃ t, engineStep r.kind rule s = .next t ∧ Settled t (Answered s p r queue one two .ok payload) := by
  refine ⟨_, engineStep_of_takes h rule, ?_⟩
  rw [serve_of_reply reply]
  simp only [okay, answerKind, kind, false_and, if_false, placeAnswer_served (queue_of_takes h)]
  exact settled_settle _

/-! ### SUMMARY (R100) -/

theorem verdictCode_eq (m : SectionMode) :
    verdictCode m.verdict = match m.name with
      | .unused => 0
      | .disturbed => 1
      | .prepared | .sweeping | .occupied | .clearing => 2
      | .clear => 3 := by cases m <;> rfl

theorem verdictCode_lt (v : Verdict) : verdictCode v < 4 := by cases v <;> decide

theorem verdictAt_lt (n : Nat) (s : State) : verdictAt n s < 4 := by
  unfold verdictAt
  split
  · exact verdictCode_lt _
  · decide

theorem verdictAt_val (n : SectionId) (s : State) : verdictAt n.val s = verdictCode (s.sec n).mode.verdict :=
  dif_pos n.isLt

theorem byteAt_summaryRecord (s : State) {k : Nat} (h : k < 6) :
    byteAt (summaryRecord s) (3 + k) = verdictByte k s := by
  interval_cases k <;> rfl

/-- Two bits of a summary byte for each of its four sections (10.4). -/
theorem verdictByte_digit (k j : Nat) (h : j < 4) (s : State) :
    (verdictByte k s).toNat / 4 ^ j % 4 = verdictAt (4 * k + j) s := by
  have h0 := verdictAt_lt (4 * k) s
  have h1 := verdictAt_lt (4 * k + 1) s
  have h2 := verdictAt_lt (4 * k + 2) s
  have h3 := verdictAt_lt (4 * k + 3) s
  rw [verdictByte, byteOf_toNat (by omega)]
  interval_cases j <;> simp only [Nat.reducePow, Nat.add_zero] <;> omega

theorem summaryRecord_digit (n : SectionId) (s : State) :
    (byteAt (summaryRecord s) (3 + n.val / 4)).toNat / 4 ^ (n.val % 4) % 4 = verdictCode (s.sec n).mode.verdict := by
  have := n.isLt
  rw [byteAt_summaryRecord s (by omega), verdictByte_digit _ _ (by omega), Nat.div_add_mod, verdictAt_val]

/-- Settles O46: the record of 10.4 field by field, in an answer that changes nothing else. -/
theorem statusAndSummary : Obligations.StatusAndSummary := by
  unfold Obligations.StatusAndSummary
  intro s p r queue one two takes
  have started := started_of_takes takes
  constructor
  · intro kind
    have reply : examine statusRule p r (takeRequest p one two s) =
        okay (statusRecord p s) (takeRequest p one two s) := by
      rw [examine_rule (by simp [kind, permitted]) fun _ => by simp [kind, servedUnconfigured]]
      rw [statusRule, statusRecord_takeRequest]
    obtain ⟨t, ht, settled⟩ := engineStep_okay takes (by simp [kind]) reply
    refine ⟨t, statusRecord p s, by rw [← ht, kind]; rfl, settled, rfl, ?_, imageFaultCode_mem _, ?_, be32_bytes _,
      be32_bytes _, rfl, byteOf_append_byteOf _, byteOf_countPoints _ _, byteOf_countPoints _ _, byteOf_countPoints _ _,
      byteOf_countPoints _ _, byteOf_countPoints _ _⟩
    · change partCode s.part = _
      cases part : s.part <;> simp_all [partCode]
    · exact (byteOf_append_byteOf _).trans (by simp)
  · intro kind part
    have reply : examine summaryRule p r (takeRequest p one two s) =
        okay (summaryRecord s) (takeRequest p one two s) := by
      rw [examine_rule (by simp [kind, permitted]) fun unconfigured => ?_]
      · rfl
      · exact absurd (part.symm.trans unconfigured) (by decide)
    obtain ⟨t, ht, settled⟩ := engineStep_okay takes (by simp [kind]) reply
    refine ⟨t, summaryRecord s, by rw [← ht, kind]; rfl, settled, rfl, ?_, ?_, fun n => ?_⟩
    · change partCode s.part = _
      rw [part]
      rfl
    · exact (byteOf_append_byteOf _).trans (by simp)
    · rw [summaryRecord_digit]
      exact verdictCode_eq _

/-! ### CLEAR STATISTICS (R165) and RESTART (R16) -/

/-- Settles O50: the two rules after a request is taken, and the conditions under which the engine takes none. -/
theorem clearStatisticsAndRestart : Obligations.ClearStatisticsAndRestart := by
  unfold Obligations.ClearStatisticsAndRestart
  refine ⟨fun s r queue one two takes => ⟨fun kind part => ?_, fun kind => ?_⟩, fun k c s command blocked => ?_⟩
  · have reply : examine clearStatisticsRule .mnt r (takeRequest .mnt one two s) =
        okay [] (takeRequest .mnt one two (clearAllStats s)) := by
      rw [examine_rule (by simp [kind, permitted]) fun unconfigured => ?_]
      · rfl
      · exact absurd (part.symm.trans unconfigured) (by decide)
    have step := engineStep_of_takes takes clearStatisticsRule
    rw [kind, serve_of_reply reply] at step
    refine ⟨_, clearAllStats s, step, ?_, rfl, fun l => ?_, fun d => ?_⟩
    · simp only [okay, kind, answerKind, reduceCtorEq, false_and, if_false]
      rw [placeAnswer_served (s := clearAllStats s) (queue_of_takes takes)]
      exact settled_settle _
    · rw [clearAllStats_line]
      rfl
    · rw [clearAllStats_point]
      rfl
  · have reply : examine restartRule .mnt r (takeRequest .mnt one two s) =
        okay [] (takeRequest .mnt one two { s with restartServed := true }) := by
      rw [examine_rule (by simp [kind, permitted]) fun _ => by simp [kind, servedUnconfigured]]
      rfl
    have step := engineStep_of_takes takes restartRule
    rw [kind, serve_of_reply reply] at step
    refine ⟨_, step, ?_⟩
    simp only [okay, kind, answerKind, and_self, if_true]
    rw [placeAnswer_takeRequest (s := { s with restartServed := true }) (queue_of_takes (s := s) takes)]
    exact settled_settle _
  · obtain ⟨rule, exec_eq⟩ := exec_of_commandOf command
    have notReady : engineReady s = false := by
      rw [← Bool.not_eq_true, engineReady_iff]
      rintro ⟨-, started, unserved, idle⟩
      obtain served | starting | ⟨h, under, stage⟩ := blocked
      · simp [served] at unserved
      · exact started starting
      · exact stage (idle h under)
    rw [exec_eq, engineStep_of_not_ready notReady]

/-! ### The answer in transmission (R154, R156) -/

theorem slotAnswers_singleton (a : Answer) : slotAnswers [a] = if a.kind = .immediate then 0 else 1 := by
  by_cases h : a.kind = .immediate <;> simp [slotAnswers, h]

/-- Settles O43: the head of the answer list is the frame being sent, and leaves with its slot. -/
theorem answerSentFreesSlot : Obligations.AnswerSentFreesSlot := by
  unfold Obligations.AnswerSentFreesSlot
  intro s p a rest high answers notRestart
  refine ⟨by simp [transmitting, high, answers], ?_⟩
  have noRestart : ¬ (p = .mnt ∧ restartSending s = true) := by
    rintro ⟨rfl, sending⟩
    exact notRestart rfl ((restartSending_iff answers).mp sending)
  refine settled_event (by simp [State.live, high, answers]) ?_
  rw [if_neg noRestart, sendHead, withPort, Port.sent, answers]
  simp only [List.tail_cons, List.take_succ_cons, List.take_zero, slotAnswers_singleton]

end Sys2Proof.Proofs
end

section
/-! Proofs: the sixth byte of a telegram (R21, R25, R26, R28). -/

namespace Sys2Proof.Proofs

open Sys2Proof.Machine Sys2Proof.Safety Sys2Proof.Claims

theorem setLine_setLine (s : State) (l : LineId) (x y : Line) : (s.setLine l x).setLine l y = s.setLine l y := by
  simp only [State.setLine, tset_tset]

theorem setLine_append (b : RecordBody) (s : State) (l : LineId) (x : Line) :
    (append b s).setLine l x = append b (s.setLine l x) := rfl

theorem lineTakes_iff (l : LineId) (early : Bool) (s : State) :
    lineTakes l early s = true ↔ InService s ∧ early = false ∧ (s.line l).asm.breakFlag = false := by
  simp [lineTakes, InService, ← inService_iff, and_assoc]

theorem routed_iff (l : LineId) (d : PointId) (s : State) :
    routed l d s = true ↔ ∃ c, (s.point d).cfg = some c ∧ (c.primary = l ∨ c.secondary = l) := by
  unfold routed
  split <;> simp_all

theorem telegramGood_iff (bytes : List Byte) :
    telegramGood bytes = true ↔ crc16 (bytes.take 4) = halfAt bytes 4 ∧ (byteAt bytes 0).getLsbD 6 = false ∧
      (byteAt bytes 0).getLsbD 7 = false := by
  simp only [telegramGood, Bool.and_eq_true, beq_iff_eq, and_assoc]

/-- The line record `y` put in place after a valid frame, with the LINE record where the line was DOWN (R28). -/
def heardLine (l : LineId) (up : Bool) (y : Line) (s : State) : State :=
  if up = true then s.setLine l y else append (.line l true) (s.setLine l y)

theorem lineHeard_setLine (l : LineId) (z : Line) (s : State) :
    lineHeard l (s.setLine l z) = heardLine l z.up { z with up := true, silence := some lineSilenceTime } s := by
  simp only [lineHeard, State.setLine_same, setLine_setLine, heardLine]

theorem heardLine_line (l : LineId) (up : Bool) (y : Line) (s : State) : (heardLine l up y s).line l = y := by
  cases up <;> simp [heardLine]

theorem setLine_heardLine (l : LineId) (up : Bool) (y z : Line) (s : State) :
    (heardLine l up y s).setLine l z = heardLine l up z s := by
  cases up
  · exact (setLine_append _ _ _ _).trans (congrArg (append _) (setLine_setLine _ _ _ _))
  · exact setLine_setLine _ _ _ _

theorem routed_heardLine (l : LineId) (up : Bool) (y : Line) (d : PointId) (s : State) :
    routed l d (heardLine l up y s) = routed l d s := by cases up <;> rfl

theorem routeTelegram_heardLine (l : LineId) (up : Bool) (y : Line) (del : Delivery) (s : State) :
    routeTelegram l del (heardLine l up y s) =
      heardLine l up
        (if routed l del.point s = true then { y with deliveries := y.deliveries ++ [del] }
          else { y with misrouted := satAdd top16 y.misrouted 1 }) s := by
  simp only [routeTelegram, routed_heardLine, heardLine_line, setLine_heardLine]
  split <;> rfl

/-- The sixth byte goes to the frame check, with the assembler back in SEARCH (R21, R25). -/
theorem lineCharacter_sixth {l : LineId} {s : State} (collect : (s.line l).asm.state = .collect)
    (held : (s.line l).asm.held.length = 5) (b : Byte) :
    lineCharacter l b s =
      checkTelegram l ((s.line l).asm.held ++ [b]) (s.setLine l (lineSearching (s.line l))) := by
  simp only [lineCharacter, collect, Assembler.store, List.length_append, held, List.length_singleton]
  rfl

/-- Settles O12: the frame check, then the line state, then the routing. -/
theorem tracksideFrameComplete : Obligations.TracksideFrameComplete := by
  unfold Obligations.TracksideFrameComplete
  intro s l b service collect flag held bytes x good valid del onItsLine heard
  refine ⟨_, congrArg (event · _ s) ((lineTakes_iff l false s).mpr ⟨service, rfl, flag⟩), ?_, ?_, ?_⟩
  all_goals
    rw [lineCharacter_sixth collect held]
    simp only [checkTelegram]
  · intro bad
    rw [if_neg (mt (telegramGood_iff bytes).mp bad), State.setLine_same, setLine_setLine]
    exact settled_settle _
  · intro isGood onLine
    rw [if_pos ((telegramGood_iff bytes).mpr isGood), State.setLine_same, setLine_setLine, lineHeard_setLine,
      routeTelegram_heardLine, if_pos ((routed_iff l del.point s).mpr onLine)]
    exact settled_settle _
  · intro isGood offLine
    rw [if_pos ((telegramGood_iff bytes).mpr isGood), State.setLine_same, setLine_setLine, lineHeard_setLine,
      routeTelegram_heardLine, if_neg (mt (routed_iff l del.point s).mp offLine)]
    exact settled_settle _

end Sys2Proof.Proofs
end

section
/-! Proofs: a whole hand-off between two sections conserves the axles (R61, R63, R66). -/

namespace Sys2Proof.Proofs

open Sys2Proof.Machine Sys2Proof.Safety Sys2Proof.Claims

/-! ### One application -/

theorem disturbed_net (c : Cause) (x : Section) : (disturbed c x).net = x.net := by
  unfold disturbed
  split <;> rfl

theorem disturbed_inTally (c : Cause) (x : Section) : (disturbed c x).inTally = x.inTally := by
  unfold disturbed
  split <;> rfl

theorem appliedSection_net (x : Section) (ins outs : Nat) (passage : Bool) :
    (appliedSection x ins outs passage).net = clampNet (resultOf x ins outs) := by
  unfold appliedSection
  dsimp only
  split
  · exact disturbed_net _ _
  split
  · exact disturbed_net _ _
  · rfl

theorem appliedSection_inTally (x : Section) (ins outs : Nat) (passage : Bool) :
    (appliedSection x ins outs passage).inTally = min 65535 (x.inTally + ins) := by
  unfold appliedSection
  dsimp only
  split
  · exact disturbed_inTally _ _
  split
  · exact disturbed_inTally _ _
  · rfl

theorem applySection_sec_same {n : SectionId} {s : State} (used : (s.sec n).mode ≠ .unused) (ins outs : Nat) :
    (applySection n ins outs s).sec n = appliedSection (s.sec n) ins outs (passageOf (s.sec n) s) := by
  unfold applySection
  dsimp only
  rw [if_neg used, putSection_sec]

/-- The net of a result in range is the result (R66). -/
theorem clampNet_of_range {x : Section} {ins outs : Nat} (low : outs ≤ x.net + ins) (high : x.net + ins ≤ 2047 + outs) :
    clampNet (resultOf x ins outs) = x.net + ins - outs := by
  unfold clampNet resultOf maxNet
  omega

/-! ### The activity report -/

/-- Cancellations for some sections change the record of a section in its open number alone, and only for these. -/
theorem cancelForEach_sec (reason : CancelReason) (q : Txn → Bool) (secs : List SectionId) (s : State) (m : SectionId) :
    (secs.foldl (fun s n => cancelFor reason q n s) s).sec m = s.sec m ∨
      m ∈ secs ∧ (secs.foldl (fun s n => cancelFor reason q n s) s).sec m = { s.sec m with openTxn := none } := by
  induction secs generalizing s with
  | nil => exact .inl rfl
  | cons n secs ih =>
    rw [List.foldl_cons]
    obtain now | ⟨hn, now⟩ := cancelFor_sec reason q n s m <;>
      obtain rest | ⟨hm, rest⟩ := ih (cancelFor reason q n s)
    · exact .inl (rest.trans now)
    · exact .inr ⟨List.mem_cons_of_mem _ hm, by rw [rest, now]⟩
    · exact .inr ⟨hn ▸ List.mem_cons_self, by rw [rest, now]⟩
    · exact .inr ⟨hn ▸ List.mem_cons_self, by rw [rest, now]⟩

theorem activityStep_sec (h : HandOff) (s : State) (m : SectionId) :
    (activityStep h s).sec m = s.sec m ∨
      (s.sideA h.point = some m ∨ s.sideB h.point = some m) ∧
        (activityStep h s).sec m = { s.sec m with openTxn := none } := by
  unfold activityStep
  split
  · refine (cancelForEach_sec .activity (fun t => t.kind == .direct) _ s m).imp_right fun ⟨hm, changed⟩ => ⟨?_, changed⟩
    simpa using hm
  · exact .inl rfl

/-! ### The four steps of a hand-off (R61) -/

/-- The hand-off `h` at a stage. -/
def atStage (h : HandOff) (stage : HandOffStage) : HandOff := { h with stage := stage }

section
variable {t : State} {h : HandOff}

theorem firstStep (made : t.handOff = some h) (waiting : h.stage = .waiting) :
    handOffOnce t = setStage h (some .recorded) (recordAxles h t) := by
  simp only [handOffOnce, made, handOffStep, waiting]

theorem secondStep (made : t.handOff = some (atStage h .recorded)) {a : SectionId} (side : t.sideA h.point = some a) :
    handOffOnce t = setStage (atStage h .recorded) (some .appliedA) (applySection a h.dBA.toNat h.dAB.toNat t) := by
  simp only [handOffOnce, made, handOffStep, atStage, applySideA, side]

theorem thirdStep (made : t.handOff = some (atStage h .appliedA)) {b : SectionId} (side : t.sideB h.point = some b) :
    handOffOnce t = setStage (atStage h .appliedA) (some .appliedB) (applySection b h.dAB.toNat h.dBA.toNat t) := by
  simp only [handOffOnce, made, handOffStep, atStage, applySideB, side]

/-- Step 4 ends the hand-off with the activity report. -/
theorem fourthStep (made : t.handOff = some (atStage h .appliedB)) :
    handOffOnce t = setStage (atStage h .appliedB) none (activityStep (atStage h .appliedB) t) := by
  simp only [handOffOnce, made, handOffStep, atStage]

end

@[simp] theorem setStage_sec (h : HandOff) (g : Option HandOffStage) (s : State) (n : SectionId) :
    (setStage h g s).sec n = s.sec n := rfl

/-- Steps 1 to 3 of the hand-off `h` of a point with section `a` on side A and `b` on side B: what they leave of the
sections. -/
structure ThreeSteps (h : HandOff) (a b : SectionId) (s t : State) : Prop where
  handOff : t.handOff = some (atStage h .appliedB)
  points : t.points = s.points
  secA : ∃ passage, t.sec a = appliedSection (s.sec a) h.dBA.toNat h.dAB.toNat passage
  secB : ∃ passage, t.sec b = appliedSection (s.sec b) h.dAB.toNat h.dBA.toNat passage
  others : ∀ n, n ≠ a → n ≠ b → t.sec n = s.sec n

theorem sideA_of_points {s t : State} (h : t.points = s.points) (d : PointId) : t.sideA d = s.sideA d := by
  simp only [State.sideA, State.point, h]

theorem sideB_of_points {s t : State} (h : t.points = s.points) (d : PointId) : t.sideB d = s.sideB d := by
  simp only [State.sideB, State.point, h]

section
variable {s : State} {h : HandOff} {a b : SectionId}

theorem threeSteps (made : s.handOff = some h) (waiting : h.stage = .waiting) (sideA : s.sideA h.point = some a)
    (sideB : s.sideB h.point = some b) (differ : a ≠ b) (usedA : (s.sec a).mode ≠ .unused)
    (usedB : (s.sec b).mode ≠ .unused) :
    ThreeSteps h a b s (handOffOnce (handOffOnce (handOffOnce s))) := by
  have step1 := firstStep made waiting
  have points1 := handOffOnce_points s
  have sec1 : ∀ n, (handOffOnce s).sec n = s.sec n := fun n => by
    rw [step1, setStage_sec, (recordAxles_only h s).sec]
  have step2 := secondStep (h := h) (by rw [step1]; rfl) ((sideA_of_points points1 _).trans sideA)
  have points2 := (handOffOnce_points (handOffOnce s)).trans points1
  have step3 := thirdStep (h := h) (by rw [step2]; rfl) ((sideB_of_points points2 _).trans sideB)
  have secB2 : (handOffOnce (handOffOnce s)).sec b = s.sec b := by
    rw [step2, setStage_sec, applySection_sec_ne _ _ _ _ differ.symm, sec1]
  refine ⟨by rw [step3]; rfl, (handOffOnce_points _).trans points2, ?_, ?_, fun n ha hb => ?_⟩
  · rw [step3, setStage_sec, applySection_sec_ne _ _ _ _ differ, step2, setStage_sec,
      applySection_sec_same (by rwa [sec1]), sec1]
    exact ⟨_, rfl⟩
  · rw [step3, setStage_sec, applySection_sec_same (by rwa [secB2]), secB2]
    exact ⟨_, rfl⟩
  · rw [step3, setStage_sec, applySection_sec_ne _ _ _ _ hb, step2, setStage_sec, applySection_sec_ne _ _ _ _ ha,
      sec1]

/-- Step 4 changes what the first three leave in the open numbers of the two sections alone (R74, R117). -/
theorem handOffAll_sec (sideA : s.sideA h.point = some a) (sideB : s.sideB h.point = some b)
    (three : ThreeSteps h a b s (handOffOnce (handOffOnce (handOffOnce s)))) (n : SectionId) :
    (handOffAll s).sec n = (handOffOnce (handOffOnce (handOffOnce s))).sec n ∨
      (n = a ∨ n = b) ∧
        (handOffAll s).sec n = { (handOffOnce (handOffOnce (handOffOnce s))).sec n with openTxn := none } := by
  rw [handOffAll, fourthStep three.handOff, setStage_sec]
  refine (activityStep_sec (atStage h .appliedB) _ n).imp_right fun ⟨side, changed⟩ => ⟨?_, changed⟩
  rw [sideA_of_points three.points, sideB_of_points three.points] at side
  exact side.imp (fun e => (Option.some.inj (sideA.symm.trans e)).symm)
    fun e => (Option.some.inj (sideB.symm.trans e)).symm

end

/-- Settles O28: side A gains what side B loses, in each direction, and the clamps of R67 and R68 do not act. -/
theorem handOffConservesAxles : Obligations.HandOffConservesAxles := by
  unfold Obligations.HandOffConservesAxles
  intro s h c a b service made waiting cfg hA hB differ usedA usedB lowA highA lowB highB
  have sideA : s.sideA h.point = some a := by simp [State.sideA, cfg, hA]
  have sideB : s.sideB h.point = some b := by simp [State.sideB, cfg, hB]
  have three := threeSteps made waiting sideA sideB differ usedA usedB
  have can : (s.inService && s.handOff.isSome) = true := by simp [(inService_iff s).mpr service, made]
  have counts : ∀ {n x}, (handOffOnce (handOffOnce (handOffOnce s))).sec n = x →
      ((handOffAll s).sec n).net = x.net ∧ ((handOffAll s).sec n).inTally = x.inTally := fun {n x} hn => by
    obtain same | ⟨-, changed⟩ := handOffAll_sec sideA sideB three n
    · rw [same, hn]
      exact ⟨rfl, rfl⟩
    · rw [changed, hn]
      exact ⟨rfl, rfl⟩
  obtain ⟨passageA, secA⟩ := three.secA
  obtain ⟨passageB, secB⟩ := three.secB
  obtain ⟨netA, inA⟩ := counts secA
  obtain ⟨netB, inB⟩ := counts secB
  refine ⟨settle (handOffAll s), congrArg (event · handOffAll s) can, ?_, ?_, ?_, ?_, fun n ha hb => ?_⟩
  · rw [settle_handOff, handOffAll, fourthStep three.handOff]
    rfl
  · rw [settle_sec, settle_sec, netA, netB, appliedSection_net, appliedSection_net, clampNet_of_range lowA highA,
      clampNet_of_range lowB highB]
    omega
  · rw [settle_sec, inA, appliedSection_inTally]
  · rw [settle_sec, inB, appliedSection_inTally]
  · obtain same | ⟨side, -⟩ := handOffAll_sec sideA sideB three n
    · rw [settle_sec, same, three.others n ha hb]
    · exact absurd side (not_or.mpr ⟨ha, hb⟩)

end Sys2Proof.Proofs
end

section
/-! Proofs: what a departure does (R52 to R54, R88, R111, R113, R115). -/

namespace Sys2Proof.Proofs

open Sys2Proof.Machine Sys2Proof.Safety Sys2Proof.Claims

/-! ### The context and the disturbed sections -/

theorem departedPoint_eq (cause : Cause) (x : Point) (tel : Option Telegram) :
    departedPoint cause x tel = leftSync cause tel x := by
  have stats : x.stats.countDeparture cause = (leftSync cause tel x).stats := by
    cases cause <;> rfl
  unfold departedPoint
  rw [stats]
  cases tel with
  | none => rfl
  | some t =>
    by_cases fault : t.headFault = true
    · have fault' : (t.fault1 || t.fault2) = true := fault
      simp only [departed, leftSync, fault, fault', if_true]
      rfl
    · have fault' : ¬ (t.fault1 || t.fault2) = true := fault
      simp only [departed, leftSync, fault, fault']
      rfl

theorem disturbed_eq (cause : Cause) (x : Section) : disturbed cause x = disturbedWith cause x := by
  unfold disturbed disturbedWith
  cases x.mode <;> rfl

/-- A disturbance: its STATE record, if the name changes, and the section record (R53, R79, R88). -/
theorem disturb_eq (cause : Cause) (n : SectionId) (u : State) :
    disturb cause n u =
      (disturbanceRecord cause u n).toList.foldl (fun v b => append b v)
        (u.setSec n (disturbedWith cause (u.sec n))) := by
  unfold disturb putSection disturbanceRecord
  rw [disturbed_eq]
  cases mode : (u.sec n).mode <;> simp [disturbedWith, mode, SectionMode.name, SectionMode.cause]

theorem disturb_sec_same (cause : Cause) (n : SectionId) (u : State) :
    (disturb cause n u).sec n = disturbedWith cause (u.sec n) := by
  rw [disturb, putSection_sec, disturbed_eq]

theorem disturb_sec_ne (cause : Cause) {n m : SectionId} (h : m ≠ n) (u : State) :
    (disturb cause n u).sec m = u.sec m := putSection_sec_ne _ _ _ _ h

theorem disturbanceRecord_congr {s u : State} {n : SectionId} (h : u.sec n = s.sec n) (cause : Cause) :
    disturbanceRecord cause u n = disturbanceRecord cause s n := by
  unfold disturbanceRecord
  rw [h]

/-! ### The records, apart from the tables -/

/-- `t` is `s` but for its points and its sections. -/
def SameButTracks (s t : State) : Prop := t = { s with points := t.points, sections := t.sections }

theorem SameButTracks.append {s t : State} (h : SameButTracks s t) (b : RecordBody) :
    SameButTracks (append b s) (append b t) := by
  unfold SameButTracks at h ⊢
  rw [h]
  rfl

theorem SameButTracks.appends {s t : State} (h : SameButTracks s t) (bs : List RecordBody) :
    SameButTracks (bs.foldl (fun v b => Machine.append b v) s) (bs.foldl (fun v b => Machine.append b v) t) := by
  induction bs generalizing s t with
  | nil => exact h
  | cons b bs ih => exact ih (h.append b)

theorem SameButTracks.setSec {s t : State} (h : SameButTracks s t) (n : SectionId) (x : Section) :
    SameButTracks s (t.setSec n x) := by
  unfold SameButTracks at h ⊢
  rw [h]
  rfl

/-- The disturbances of distinct sections: their STATE records in order, and the section records. -/
theorem disturbEach_spec (cause : Cause) {s : State} {ns : List SectionId} (nodup : ns.Nodup) {w u : State}
    (same : SameButTracks w u) (secs : ∀ n ∈ ns, u.sec n = s.sec n) :
    SameButTracks ((ns.filterMap (disturbanceRecord cause s)).foldl (fun v b => append b v) w)
        (ns.foldl (fun v n => disturb cause n v) u) ∧
      (∀ n ∈ ns, (ns.foldl (fun v n => disturb cause n v) u).sec n = disturbedWith cause (s.sec n)) ∧
      ∀ n, n ∉ ns → (ns.foldl (fun v n => disturb cause n v) u).sec n = u.sec n := by
  induction ns generalizing w u with
  | nil => exact ⟨same, (fun _ h => nomatch h), fun _ _ => rfl⟩
  | cons n ns ih =>
    obtain ⟨fresh, nodup⟩ := List.nodup_cons.mp nodup
    have hn : u.sec n = s.sec n := secs n List.mem_cons_self
    have now : SameButTracks ((disturbanceRecord cause s n).toList.foldl (fun v b => append b v) w)
        (disturb cause n u) := by
      rw [disturb_eq, disturbanceRecord_congr hn]
      exact (same.setSec _ _).appends _
    have ne : ∀ m ∈ ns, m ≠ n := fun m hm e => fresh (e ▸ hm)
    obtain ⟨records, disturbedSecs, others⟩ := ih nodup now fun m hm => by
      rw [disturb_sec_ne cause (ne m hm), secs m (List.mem_cons_of_mem _ hm)]
    refine ⟨?_, fun m hm => ?_, fun m hm => ?_⟩
    · have split : (n :: ns).filterMap (disturbanceRecord cause s) =
          (disturbanceRecord cause s n).toList ++ ns.filterMap (disturbanceRecord cause s) := by
        cases h : disturbanceRecord cause s n <;> simp [h]
      rw [split, List.foldl_append]
      exact records
    · obtain rfl | hm := List.mem_cons.mp hm
      · rw [List.foldl_cons, others _ fresh, disturb_sec_same, hn]
      · exact disturbedSecs m hm
    · rw [List.mem_cons, not_or] at hm
      rw [List.foldl_cons, others m hm.2, disturb_sec_ne cause hm.1]

/-! ### The cancellations in turn -/

theorem endTxn_ended {s : State} {k : SlotId} {u : Txn} (e : ResetEvent) : Ended e k u s (endTxn e k u s) := by
  obtain ⟨journal, freed, slots, sec, secs, watch⟩ := endTxn_spec e k u s
  exact ⟨(endTxn_only e k u s).1, journal, freed, slots, sec, secs, watch⟩

/-- The only entry of a table that a function keeps is all that it keeps. -/
theorem filterMap_eq_singleton {α β : Type} {f : α → Option β} {l : List α} {a : α} {b : β} (nodup : l.Nodup)
    (mem : a ∈ l) (found : f a = some b) (only : ∀ x, x ≠ a → f x = none) : l.filterMap f = [b] := by
  obtain ⟨before, after, rfl⟩ := List.append_of_mem mem
  obtain ⟨-, nodupAfter, disjoint⟩ := List.nodup_append.mp nodup
  have beforeNone : before.filterMap f = [] := List.filterMap_eq_nil_iff.mpr fun x hx =>
    only x (disjoint x hx a List.mem_cons_self)
  have afterNone : after.filterMap f = [] := List.filterMap_eq_nil_iff.mpr fun x hx =>
    only x fun e => (List.nodup_cons.mp nodupAfter).1 (e ▸ hx)
  simp [beforeNone, afterNone, found]

theorem openFor_eq (s : State) (n : SectionId) :
    openFor s n = (List.finRange 4).filterMap fun k => (s.slot k).filter fun u => u.sec == n :=
  List.filter_filterMap

theorem openFor_of_none {s : State} {n : SectionId} (h : ∀ k u, s.slot k = some u → u.sec ≠ n) : openFor s n = [] := by
  rw [openFor_eq, List.filterMap_eq_nil_iff]
  intro k _
  cases hk : s.slot k with
  | none => rfl
  | some u => simp [h k u hk]

theorem openFor_of_open {s : State} (hs : TxnSound s) {k : SlotId} {u : Txn} (hk : s.slot k = some u) :
    openFor s u.sec = [u] := by
  rw [openFor_eq]
  refine filterMap_eq_singleton (List.nodup_finRange 4) (List.mem_finRange k) (by simp [hk]) fun j hj => ?_
  cases hv : s.slot j with
  | none => rfl
  | some v =>
    have : v.sec ≠ u.sec := fun same => hj (hs.one_section j k v u hv hk same)
    simp [this]

theorem openFor_congr {s t : State} {n : SectionId}
    (h : ∀ k, (t.slot k).filter (fun u => u.sec == n) = (s.slot k).filter fun u => u.sec == n) :
    openFor t n = openFor s n := by
  simp only [openFor_eq, h]

/-- The ending of a transaction for one section leaves those for the others as they were. -/
theorem openFor_endTxn {s : State} {k : SlotId} {u : Txn} (hk : s.slot k = some u) (e : ResetEvent) {n : SectionId}
    (h : n ≠ u.sec) : openFor (endTxn e k u s) n = openFor s n := by
  obtain ⟨-, freed, slots, -⟩ := endTxn_spec e k u s
  refine openFor_congr fun j => ?_
  by_cases hj : j = k
  · subst hj
    rw [freed, hk, Option.filter_some, if_neg (by simpa using h.symm)]
    rfl
  · rw [slots j hj]

theorem endedInTurn_append {e : ResetEvent} {us : List Txn} {ws : List Txn} {s t v : State}
    (now : EndedInTurn e us s t) (rest : EndedInTurn e ws t v) : EndedInTurn e (us ++ ws) s v := by
  induction us generalizing s with
  | nil =>
    obtain rfl : t = s := now
    exact rest
  | cons u us ih =>
    obtain ⟨k, m, hk, ended, now⟩ := now
    exact ⟨k, m, hk, ended, ih now⟩

/-- One cancellation ends the open transaction of its section, if there is one, and leaves those of the other sections
open. -/
theorem cancelFor_endedInTurn {s : State} (hs : TxnSound s) (reason : CancelReason) (n : SectionId) :
    EndedInTurn (.cancelled reason) (openFor s n) s (cancelFor reason (fun _ => true) n s) ∧
      ∀ m, m ≠ n → openFor (cancelFor reason (fun _ => true) n s) m = openFor s m := by
  by_cases h : ∃ k u, s.slot k = some u ∧ u.sec = n
  · obtain ⟨k, u, hk, rfl⟩ := h
    rw [openFor_of_open hs hk, cancelFor_of_open hk rfl fun j v hv same => hs.one_section j k v u hv hk same]
    exact ⟨⟨k, _, hk, endTxn_ended _, rfl⟩, fun m hm => openFor_endTxn hk _ hm⟩
  · push Not at h
    rw [openFor_of_none h, cancelFor_of_none fun k t hk hn => absurd hn (h k t hk)]
    exact ⟨rfl, fun _ _ => rfl⟩

/-- Cancellations for distinct sections end their open transactions in the order of the sections (R115). -/
theorem cancelForEach_endedInTurn {s : State} (hs : TxnSound s) (reason : CancelReason) {ns : List SectionId}
    (nodup : ns.Nodup) :
    EndedInTurn (.cancelled reason) (ns.flatMap (openFor s)) s
      (ns.foldl (fun v n => cancelFor reason (fun _ => true) n v) s) := by
  induction ns generalizing s with
  | nil => exact rfl
  | cons n ns ih =>
    obtain ⟨fresh, nodup⟩ := List.nodup_cons.mp nodup
    obtain ⟨now, others⟩ := cancelFor_endedInTurn hs reason n
    have rest := ih (cancelFor_sound hs reason (fun _ => true) n) nodup
    have same : ns.flatMap (openFor (cancelFor reason (fun _ => true) n s)) = ns.flatMap (openFor s) :=
      List.flatMap_congr fun m hm => others m fun e => fresh (e ▸ hm)
    rw [same] at rest
    exact endedInTurn_append now rest

/-! ### The departure -/

theorem adjacent_nodup {c : PointCfg} (differ : c.sideA ≠ c.sideB) : c.adjacent.Nodup := by
  unfold PointCfg.adjacent
  cases hA : c.sideA <;> cases hB : c.sideB <;> simp_all

theorem disturbEach_only (cause : Cause) (ns : List SectionId) (s : State) :
    OnlySections s (ns.foldl (fun v n => disturb cause n v) s) :=
  foldl_only (R := OnlySections) .refl .trans _ (fun _ n => disturb_only cause n _) ns s

/-- The state before the disturbances: the context `y` of the point, and its POINT record (R55). -/
def departing (d : PointId) (y : Point) (cause : Cause) (s : State) : State :=
  append (pointRecordOf d .inSync y.mode.name (some cause)) (s.setPoint d y)

theorem depart_eq (d : PointId) (c : PointCfg) (x : Point) (cause : Cause) (tel : Option Telegram) (s : State) :
    depart d c x cause tel s =
      c.adjacent.foldl (fun v n => cancelFor .point (fun _ => true) n v)
        (c.adjacent.foldl (fun v n => disturb cause n v) (departing d (leftSync cause tel x) cause s)) := by
  unfold depart
  rw [departedPoint_eq]
  rfl

theorem departing_sound {s : State} (hs : TxnSound s) (d : PointId) (y : Point) (cause : Cause) :
    TxnSound (departing d y cause s) :=
  txnSound_of_sameTable (.ofPoints ((setPoint_only _ _ _).trans (append_only _ _).toPoints)) hs

/-- Settles O21: the context and its record first, then the disturbances, then the cancellations, section by section. -/
theorem departureEffect : Obligations.DepartureEffect := by
  unfold Obligations.DepartureEffect
  intro s d c x cause tel sound differ adjacent y records
  have nodup : adjacent.Nodup := adjacent_nodup differ
  obtain ⟨recorded, disturbedSecs, others⟩ := disturbEach_spec cause (s := s) nodup
    (w := append (pointRecordOf d .inSync y.mode.name (some cause)) s) (u := departing d y cause s) rfl fun _ _ => rfl
  have only := disturbEach_only cause adjacent (departing d y cause s)
  have disturbedSound :=
    foldl_sound (fun _ n h => disturb_txnSound h cause n) adjacent (departing_sound sound d y cause)
  refine ⟨adjacent.foldl (fun v n => disturb cause n v) (departing d y cause s), recorded, ?_, fun d' hd => ?_,
    disturbedSecs, others, ?_⟩
  · exact (only.point d).trans (State.setPoint_same _ _ _)
  · exact (only.point d').trans (State.setPoint_ne _ _ _ _ hd)
  · have opened : adjacent.flatMap (openFor s) =
        adjacent.flatMap (openFor (adjacent.foldl (fun v n => disturb cause n v) (departing d y cause s))) :=
      List.flatMap_congr fun n _ => (openFor_congr fun k => by rw [only.slot k]; rfl).symm
    rw [opened, depart_eq]
    exact cancelForEach_endedInTurn disturbedSound .point nodup

end Sys2Proof.Proofs
end

section
/-! Proofs: trackside lines (chapter 2): characters before a frame is complete, errors, breaks and timers. -/

namespace Sys2Proof.Proofs

open Sys2Proof.Machine Sys2Proof.Safety Sys2Proof.Claims

/-! ### A good character, case by case (R20, R21) -/

section
variable {l : LineId} {s : State}

theorem lineCharacter_marker (search : (s.line l).asm.state = .search) :
    lineCharacter l 0xC3 s = s.setLine l { s.line l with asm := (s.line l).asm.begin lineGapTime } := by
  simp only [lineCharacter, search, telegramMarker, if_true]

theorem lineCharacter_other (search : (s.line l).asm.state = .search) {b : Byte} (other : b ≠ 0xC3) :
    lineCharacter l b s = s := by
  simp only [lineCharacter, search, telegramMarker, other, if_false]

theorem lineCharacter_stored (collect : (s.line l).asm.state = .collect) (room : (s.line l).asm.held.length < 5)
    (b : Byte) :
    lineCharacter l b s = s.setLine l { s.line l with asm := (s.line l).asm.store lineGapTime b } := by
  have below : ((s.line l).asm.store lineGapTime b).held.length < 6 := by
    simp only [Assembler.store, List.length_append, List.length_singleton]
    omega
  simp only [lineCharacter, collect, below, if_true]

/-- A line event takes no effect while its receiver does not take the character. -/
theorem exec_line_ignored {early : Bool} (ignored : lineTakes l early s = false) (b : Byte) :
    exec (.trkGoodCharacter l b early) s = .next s ∧ exec (.trkFramingError l early) s = .next s ∧
      exec (.trkBreak l early) s = .next s := by
  simp only [exec, execTrkGoodCharacter, execTrkFramingError, execTrkBreak, ignored, event_false, and_self]

end

/-- Settles O11: a good character in SEARCH and in COLLECT, and the conditions under which no character is taken. -/
theorem tracksideCharacter : Obligations.TracksideCharacter := by
  unfold Obligations.TracksideCharacter
  intro s l b
  refine ⟨fun service flag => ⟨?_, ?_, ?_⟩, fun early unheard => ?_⟩
  · rintro search rfl
    refine settled_event ((lineTakes_iff l false s).mpr ⟨service, rfl, flag⟩) ?_
    rw [lineCharacter_marker search, Assembler.begin, flag]
    rfl
  · intro search other
    exact settled_event ((lineTakes_iff l false s).mpr ⟨service, rfl, flag⟩) (lineCharacter_other search other)
  · intro collect room
    refine settled_event ((lineTakes_iff l false s).mpr ⟨service, rfl, flag⟩) ?_
    rw [lineCharacter_stored collect room, Assembler.store, flag, collect]
    rfl
  · refine exec_line_ignored ?_ b
    rw [← Bool.not_eq_true, lineTakes_iff]
    rintro ⟨service, onTime, flag⟩
    obtain off | inBreak | tooEarly := unheard
    · exact off service
    · exact Bool.noConfusion (inBreak.symm.trans flag)
    · exact Bool.noConfusion (tooEarly.symm.trans onTime)

/-! ### Errors, breaks and timers (R22, R23, R24, R28) -/

/-- Settles O14: each event's condition on the line, and the line record after it. -/
theorem tracksideErrorsAndTimers : Obligations.TracksideErrorsAndTimers := by
  unfold Obligations.TracksideErrorsAndTimers
  intro s l service x
  have takes : x.asm.breakFlag = false → lineTakes l false s = true := fun flag =>
    (lineTakes_iff l false s).mpr ⟨service, rfl, flag⟩
  have inService := (inService_iff s).mpr service
  refine ⟨fun flag => ?_, fun flag => ?_, fun flag => ?_, fun collect due => ?_, fun up due => ?_⟩
  · unfold exec execTrkFramingError
    exact settled_event (takes flag) rfl
  · unfold exec execTrkBreak
    exact settled_event (takes flag) rfl
  · unfold exec execTrkBreakEnd
    exact settled_event (Bool.and_eq_true_iff.mpr ⟨inService, flag⟩) rfl
  · unfold exec execTrkGapTimeout
    refine settled_event ?_ rfl
    simp only [Bool.and_eq_true, beq_iff_eq, timerDue_iff]
    exact ⟨⟨inService, collect⟩, due⟩
  · unfold exec execLineSilenceExpiry
    refine settled_event ?_ rfl
    simp only [Bool.and_eq_true, timerDue_iff]
    exact ⟨⟨inService, up⟩, due⟩

end Sys2Proof.Proofs
end

section
/-! Proofs: every step keeps the trackside lines and frame assemblers sound. A command either leaves the lines and the
ports' assemblers as they are (`SameReception`), or changes one of them by a rule of chapter 2 or 8, or all of them by a
start or a tick. -/

namespace Sys2Proof.Proofs

open Sys2Proof.Machine Sys2Proof.Safety Sys2Proof.Claims

/-! ### Frame assemblers (R20 to R22, R145, R146) -/

/-- A port's assembler between two characters: sound, and what it has collected is no more than a request frame can
announce and less than it has announced (R145). -/
structure FrameSound (a : Assembler) : Prop where
  asm : AssemblerSound a
  frame : 3 ≤ a.held.length → announced a.held ≤ 12 ∧ a.held.length < 5 + announced a.held

theorem receptionSound_iff (s : State) :
    ReceptionSound s ↔ (∀ l, LineSound (s.line l)) ∧ ∀ p, FrameSound (s.port p).asm :=
  ⟨fun h => ⟨h.lines, fun p => ⟨h.ports p, h.frame p⟩⟩,
    fun ⟨lines, ports⟩ => ⟨lines, fun p => (ports p).asm, fun p => (ports p).frame⟩⟩

theorem assemblerSound_searching (flag : Bool) : AssemblerSound ⟨.search, [], none, flag⟩ :=
  ⟨fun _ => ⟨rfl, rfl⟩, fun h => nomatch h⟩

theorem frameSound_of_empty {a : Assembler} (h : AssemblerSound a) (empty : a.held = []) : FrameSound a :=
  ⟨h, fun three => by simp [empty] at three⟩

theorem frameSound_searching (flag : Bool) : FrameSound ⟨.search, [], none, flag⟩ :=
  frameSound_of_empty (assemblerSound_searching flag) rfl

section
variable {a : Assembler}

theorem assemblerSound_begin (flag : a.breakFlag = false) (gapTime : Nat) : AssemblerSound (a.begin gapTime) :=
  ⟨(fun h => nomatch h), fun _ => ⟨rfl, flag⟩⟩

theorem assemblerSound_store (h : AssemblerSound a) (collect : a.state = .collect) (gapTime : Nat) (b : Byte) :
    AssemblerSound (a.store gapTime b) where
  search_empty search := nomatch collect.symm.trans search
  collect_runs _ := ⟨rfl, (h.collect_runs collect).2⟩

theorem assemblerSound_tick (h : AssemblerSound a) : AssemblerSound a.tick where
  search_empty search := by
    obtain ⟨empty, stopped⟩ := h.search_empty search
    exact ⟨empty, congrArg tickTimer stopped⟩
  collect_runs collect := by
    obtain ⟨runs, flag⟩ := h.collect_runs collect
    exact ⟨(tickTimer_isSome a.gap).trans runs, flag⟩

theorem frameSound_tick (h : FrameSound a) : FrameSound a.tick := ⟨assemblerSound_tick h.asm, h.frame⟩

/-- From the third byte on, a further byte leaves the announced length as it is. -/
theorem announced_append {held : List Byte} (h : 3 ≤ held.length) (b : Byte) :
    announced (held ++ [b]) = announced held := by
  simp only [announced, byteAt, List.getD_append _ _ _ _ h]

/-- A byte stored by a port's assembler leaves it sound, where the frame is neither too long nor complete (R145). -/
theorem frameSound_store (h : FrameSound a) (collect : a.state = .collect) (gapTime : Nat) {b : Byte}
    (short : ¬ ((a.held ++ [b]).length = 3 ∧ maxRequestPayload < announced (a.held ++ [b])))
    (incomplete : ¬ (3 ≤ (a.held ++ [b]).length ∧ 5 + announced (a.held ++ [b]) ≤ (a.held ++ [b]).length)) :
    FrameSound (a.store gapTime b) where
  asm := assemblerSound_store h.asm collect gapTime b
  frame (three : 3 ≤ (a.held ++ [b]).length) := by
    have unfinished := Nat.lt_of_not_le fun full => incomplete ⟨three, full⟩
    refine ⟨?_, unfinished⟩
    change announced (a.held ++ [b]) ≤ 12
    by_cases third : (a.held ++ [b]).length = 3
    · exact Nat.le_of_not_lt fun long => short ⟨third, long⟩
    · have before : 3 ≤ a.held.length := by
        rw [List.length_append, List.length_singleton] at three third
        omega
      rw [announced_append before]
      exact (h.frame before).1

end

/-! ### One line, or one port's assembler, replaced -/

theorem setLine_receptionSound {s : State} {l : LineId} {x : Line} (hs : ReceptionSound s) (hx : LineSound x) :
    ReceptionSound (s.setLine l x) where
  lines k := by
    by_cases h : k = l
    · subst h
      rwa [State.setLine_same]
    · rw [State.setLine_ne _ _ _ _ h]
      exact hs.lines k
  ports := hs.ports
  frame := hs.frame

theorem setPort_receptionSound {s : State} {p : PortId} {x : Port} (hs : ReceptionSound s) (hx : FrameSound x.asm) :
    ReceptionSound (s.setPort p x) := by
  obtain ⟨lines, ports⟩ := (receptionSound_iff s).mp hs
  refine (receptionSound_iff _).mpr ⟨lines, fun q => ?_⟩
  by_cases h : q = p
  · subst h
    rwa [State.setPort_same]
  · rw [State.setPort_ne _ _ _ _ h]
    exact ports q

/-- `t` has the lines of `s`, and in every port the assembler of `s`. -/
structure SameReception (s t : State) : Prop where
  line : ∀ l, t.line l = s.line l
  asm : ∀ p, (t.port p).asm = (s.port p).asm

namespace SameReception

variable {s t u : State}

theorem refl (s : State) : SameReception s s := ⟨fun _ => rfl, fun _ => rfl⟩

theorem trans (h : SameReception s t) (g : SameReception t u) : SameReception s u :=
  ⟨fun l => (g.line l).trans (h.line l), fun p => (g.asm p).trans (h.asm p)⟩

theorem ofCounting (h : OnlyCounting s t) : SameReception s t := ⟨h.line, fun p => congrArg Port.asm (h.port p)⟩
theorem ofTable (h : OnlyTable s t) : SameReception s t := ofCounting h.toCounting
theorem ofJournal (h : OnlyJournal s t) : SameReception s t := ofCounting h.toCounting

theorem setPort {p : PortId} {x : Port} (h : x.asm = (s.port p).asm) : SameReception s (s.setPort p x) where
  line _ := rfl
  asm q := by
    by_cases hq : q = p
    · subst hq
      rwa [State.setPort_same]
    · rw [State.setPort_ne _ _ _ _ hq]

theorem append {b : RecordBody} (h : SameReception s t) : SameReception s (append b t) :=
  h.trans (ofJournal (append_only b t))

theorem sound (h : SameReception s t) (hs : ReceptionSound s) : ReceptionSound t where
  lines l := h.line l ▸ hs.lines l
  ports p := h.asm p ▸ hs.ports p
  frame p := h.asm p ▸ hs.frame p

end SameReception

/-! ### Trackside lines (chapter 2) -/

section
variable {x : Line}

theorem lineSound_searching (h : LineSound x) : LineSound (lineSearching x) :=
  { h with asm := assemblerSound_searching _, held_le := Nat.zero_le _ }

theorem lineSound_error (h : LineSound x) : LineSound x.error :=
  { lineSound_searching h with lineError_le := satAdd_le _ _ _ }

theorem lineSound_breakSeen (h : LineSound x) : LineSound x.breakSeen :=
  { lineSound_error h with asm := assemblerSound_searching _ }

theorem lineSound_validFrame (h : LineSound x) (time : Word) : LineSound (x.validFrame time) :=
  { h with valid_le := satAdd_le _ _ _ }

theorem lineSound_clearStats (h : LineSound x) : LineSound x.clearStats :=
  { h with
    valid_le := Nat.zero_le _, check_le := Nat.zero_le _, timeout_le := Nat.zero_le _
    lineError_le := Nat.zero_le _, misrouted_le := Nat.zero_le _ }

theorem lineSound_off (h : LineSound x) : LineSound x.off :=
  { h with asm := idle_assemblerSound, held_le := Nat.zero_le _, silence_up := rfl }

theorem lineSound_tick (h : LineSound x) :
    LineSound { x with silence := tickTimer x.silence, asm := x.asm.tick } :=
  { h with asm := assemblerSound_tick h.asm, silence_up := (tickTimer_isSome _).trans h.silence_up }

end

section
variable {s : State} (hs : ReceptionSound s)
include hs

theorem lineHeard_sound (l : LineId) : ReceptionSound (lineHeard l s) := by
  have heard : ReceptionSound (s.setLine l { s.line l with up := true, silence := some lineSilenceTime }) :=
    setLine_receptionSound hs { hs.lines l with silence_up := rfl }
  unfold lineHeard
  dsimp only
  split
  · exact heard
  · exact (SameReception.refl _).append.sound heard

theorem routeTelegram_sound (l : LineId) (del : Delivery) : ReceptionSound (routeTelegram l del s) := by
  unfold routeTelegram
  dsimp only
  split
  · exact setLine_receptionSound hs { hs.lines l with }
  · exact setLine_receptionSound hs { hs.lines l with misrouted_le := satAdd_le _ _ _ }

theorem checkTelegram_sound (l : LineId) (bytes : List Byte) : ReceptionSound (checkTelegram l bytes s) := by
  unfold checkTelegram
  split
  · have valid := setLine_receptionSound (l := l) hs (lineSound_validFrame (hs.lines l) s.time)
    exact routeTelegram_sound (lineHeard_sound valid l) l _
  · exact setLine_receptionSound hs { hs.lines l with check_le := satAdd_le _ _ _ }

theorem lineCharacter_sound {l : LineId} (flag : (s.line l).asm.breakFlag = false) (b : Byte) :
    ReceptionSound (lineCharacter l b s) := by
  have sound := hs.lines l
  cases state : (s.line l).asm.state with
  | search =>
    by_cases marker : b = 0xC3
    · rw [marker, lineCharacter_marker state]
      exact setLine_receptionSound hs { sound with asm := assemblerSound_begin flag _, held_le := Nat.zero_le _ }
    · rwa [lineCharacter_other state marker]
  | collect =>
    by_cases room : (s.line l).asm.held.length < 5
    · rw [lineCharacter_stored state room]
      refine setLine_receptionSound hs { sound with asm := assemblerSound_store sound.asm state _ b, held_le := ?_ }
      simp only [Assembler.store, List.length_append, List.length_singleton]
      omega
    · rw [lineCharacter_sixth state (Nat.le_antisymm sound.held_le (Nat.le_of_not_lt room))]
      exact checkTelegram_sound (setLine_receptionSound hs (lineSound_searching sound)) l _

theorem takeDelivery_receptionSound (l : LineId) : ReceptionSound (takeDelivery l s) := by
  unfold takeDelivery
  split
  · exact hs
  · rename_i del rest _
    exact (SameReception.ofCounting (supervise_only l del _)).sound
      (setLine_receptionSound hs (x := { s.line l with deliveries := rest }) { hs.lines l with })

end

/-! ### Master ports (8.2 to 8.5) -/

theorem isolate_same (p : PortId) (s : State) : SameReception s (isolate p s) := .append (.setPort rfl)

theorem linkError_same (p : PortId) (s : State) : SameReception s (linkError p s) := by
  have latched (x : Port) (h : x.asm = (s.port p).asm) : SameReception s (setLinkLatch p (s.setPort p x)) :=
    (SameReception.setPort h).trans (.ofJournal (setWatch_only _ _ _))
  unfold linkError
  dsimp only
  split
  · refine .trans ?_ (isolate_same _ _)
    exact latched _ rfl
  · exact latched _ rfl

theorem placeAnswer_same (p : PortId) (a : Answer) (s : State) : SameReception s (placeAnswer p a s) := .setPort rfl

theorem answerAtOnce_same (p : PortId) (tag : Byte) (result : ResultCode) (s : State) :
    SameReception s (answerAtOnce p tag result s) :=
  (SameReception.setPort rfl : SameReception s (lowerError p s)).trans (placeAnswer_same _ _ _)

theorem rejoinPort_same (p : PortId) (tag : Byte) (s : State) : SameReception s (rejoinPort p tag s) := by
  unfold rejoinPort
  split
  · refine .append (.trans ?_ (placeAnswer_same _ _ _))
    exact .setPort rfl
  · exact answerAtOnce_same _ _ _ _

theorem needsRoom_same {p : PortId} {effect : State → State} {s : State} (h : SameReception s (effect s)) :
    SameReception s (needsRoom p effect s) := by
  unfold needsRoom
  split
  · exact h
  · exact linkError_same _ _

theorem acceptRequest_same (p : PortId) (r : Request) (s : State) : SameReception s (acceptRequest p r s) :=
  (SameReception.setPort rfl : SameReception s (lowerError p s)).trans (.setPort rfl)

theorem handleRequest_same (p : PortId) (r : Request) (s : State) : SameReception s (handleRequest p r s) := by
  unfold handleRequest
  split
  · exact needsRoom_same (rejoinPort_same _ _ _)
  split
  · exact needsRoom_same (answerAtOnce_same _ _ _ _)
  split
  · exact needsRoom_same (answerAtOnce_same _ _ _ _)
  · exact acceptRequest_same _ _ _

/-- A complete frame, once its assembler is back in SEARCH, is handled without a change to any assembler. -/
theorem handleFrame_same (p : PortId) (tag : Byte) (r : Option Request) (s : State) :
    SameReception s (handleFrame p tag r s) := by
  unfold handleFrame
  split
  · split
    · exact .refl s
    · exact handleRequest_same _ _ _
  · split
    · exact .refl s
    · exact needsRoom_same ((placeAnswer_same _ _ _).trans (linkError_same _ _))

section
variable {s : State} (hs : ReceptionSound s)
include hs

theorem searchingPort_sound (p : PortId) {x : Port} :
    ReceptionSound (s.setPort p { x with asm := x.asm.toSearch }) :=
  setPort_receptionSound hs (frameSound_searching _)

theorem discardFrame_sound (p : PortId) : ReceptionSound (discardFrame p s) :=
  (linkError_same p _).sound (searchingPort_sound hs p)

theorem completeFrame_sound (p : PortId) (held : List Byte) : ReceptionSound (completeFrame p held s) := by
  unfold completeFrame
  split
  · exact (handleFrame_same _ _ _ _).sound hs
  · exact discardFrame_sound hs p

theorem linkReset_sound (p : PortId) : ReceptionSound (linkReset p s) :=
  (SameReception.refl _).append.sound (setPort_receptionSound hs (frameSound_searching _))

/-- A byte in COLLECT: the frame is abandoned, complete, or still in collection (R145). -/
theorem collected_sound {p : PortId} (collect : (s.port p).asm.state = .collect) (b : Byte) :
    ReceptionSound (collected p ((s.port p).asm.held ++ [b])
      (s.setPort p { s.port p with asm := (s.port p).asm.store portGapTime b })) := by
  unfold collected
  split
  · rw [discardFrame, setPort_setPort, State.setPort_same]
    exact (linkError_same p _).sound (searchingPort_sound hs p)
  rename_i short
  split
  · rw [setPort_setPort, State.setPort_same]
    exact completeFrame_sound (searchingPort_sound hs p) p _
  · rename_i incomplete
    exact setPort_receptionSound hs
      (frameSound_store ⟨hs.ports p, hs.frame p⟩ collect portGapTime short incomplete)

theorem portCharacter_sound {p : PortId} (flag : (s.port p).asm.breakFlag = false) (b : Byte) :
    ReceptionSound (portCharacter p b s) := by
  unfold portCharacter
  dsimp only
  split
  · split
    · exact setPort_receptionSound hs (frameSound_of_empty (assemblerSound_begin flag _) rfl)
    · exact hs
  · rename_i collect
    exact collected_sound hs collect b

end

/-! ### The rules of the requests -/

/-- Taking a request and placing an answer touch the port's queue and its answers alone. -/
theorem takeRequest_same (p : PortId) (one : RingOne) (two : RingTwo) (s : State) :
    SameReception s (takeRequest p one two s) :=
  (SameReception.setPort (p := p) (x := { s.port p with queue := (s.port p).queue.tail }) rfl).trans
    ⟨fun _ => rfl, fun _ => rfl⟩

theorem setInhibitRule_same (p : PortId) (r : Request) (s : State) :
    SameReception s (setInhibitRule p r s).state := by
  unfold setInhibitRule
  repeat' split
  case h_2.isFalse.isFalse => exact .ofTable (setInhibitFlag_only _ _ _ _)
  all_goals exact .refl s

theorem proposeChecked_same (p : PortId) (n : SectionId) (kind : ResetKind) (s : State) :
    SameReception s (proposeChecked p n kind s).state := by
  unfold proposeChecked
  dsimp only
  repeat' split
  all_goals exact ⟨fun _ => rfl, fun _ => rfl⟩

theorem proposeResetRule_same (p : PortId) (r : Request) (s : State) :
    SameReception s (proposeResetRule p r s).state := by
  unfold proposeResetRule
  split
  · exact proposeChecked_same _ _ _ _
  · exact .refl s
  · exact .refl s

theorem confirmResetRule_same (p : PortId) (r : Request) (s : State) :
    SameReception s (confirmResetRule p r s).state := by
  unfold confirmResetRule
  split
  · exact .refl s
  · dsimp only
    split
    · exact .ofTable (endTxn_only _ _ _ _)
    split
    · exact .refl s
    split
    · split
      · exact .ofTable ((addConfirmation_only _ _ _ _).trans (completeTxn_only _ _ _))
      · exact .ofTable ((addConfirmation_only _ _ _ _).trans (endTxn_only _ _ _ _))
    · exact .ofTable (addConfirmation_only _ _ _ _)

theorem cancelResetRule_same (p : PortId) (r : Request) (s : State) :
    SameReception s (cancelResetRule p r s).state := by
  unfold cancelResetRule
  split
  · exact .refl s
  · split
    · exact .refl s
    · exact .ofTable (endTxn_only _ _ _ _)

/-! ### Starts, the Time Base, and the answers -/

theorem coldStart_receptionSound (low : PortLevels) (s : State) : ReceptionSound (coldStart low s) :=
  (receptionSound_iff _).mpr
    ⟨fun l => by rw [coldStart_line]; exact cold_lineSound,
      fun p => by rw [coldStart_port]; exact frameSound_searching _⟩

theorem frameSound_takeRate {x : Port} (h : FrameSound x.asm) (rate : PortRate) : FrameSound (x.takeRate rate).asm := by
  unfold Port.takeRate
  dsimp only
  split
  · exact h
  · exact frameSound_searching _

section
variable {s : State} (hs : ReceptionSound s)
include hs

theorem sendHead_receptionSound (p : PortId) : ReceptionSound (sendHead p s) :=
  setPort_receptionSound hs (⟨hs.ports p, hs.frame p⟩ : FrameSound (s.port p).asm)

theorem warmStart_receptionSound : ReceptionSound (warmStart s) := by
  obtain ⟨lines, ports⟩ := (receptionSound_iff s).mp hs
  refine (receptionSound_iff _).mpr ⟨fun l => ?_, fun p => ?_⟩
  · rw [warmStart_line]
    exact lineSound_off (lines l)
  · rw [warmStart_port]
    exact ports p

theorem restartSent_receptionSound : ReceptionSound (restartSent s) :=
  warmStart_receptionSound (sendHead_receptionSound hs .mnt)

theorem endLoad_receptionSound (image : List Byte) : ReceptionSound (endLoad image s) := by
  obtain ⟨lines, ports⟩ := (receptionSound_iff s).mp hs
  by_cases good : imageFaultOf (presented image) = .none
  · rw [endLoad_of_good s good]
    refine (SameReception.refl _).append.sound ((receptionSound_iff _).mpr ⟨fun l => ?_, fun p => ?_⟩)
    · rw [enterRunning_line]
      exact lineSound_off (lines l)
    · rw [enterRunning_port]
      exact frameSound_takeRate (ports p) _
  · rw [endLoad_of_fault s good]
    refine (SameReception.refl _).append.sound ((receptionSound_iff _).mpr ⟨fun l => ?_, fun p => ?_⟩)
    · rw [enterUnconfigured_line]
      exact lineSound_off (lines l)
    · rw [enterUnconfigured_port]
      exact frameSound_takeRate (ports p) _

theorem tick_receptionSound : ReceptionSound (tick s) := by
  obtain ⟨lines, ports⟩ := (receptionSound_iff s).mp hs
  refine (receptionSound_iff _).mpr ⟨fun l => ?_, fun p => ?_⟩
  · rw [tick_line]
    split
    · exact lineSound_tick (lines l)
    · exact lines l
  · rw [tick_port]
    split
    · exact frameSound_tick (ports p)
    · exact ports p

theorem clearAllStats_receptionSound : ReceptionSound (clearAllStats s) where
  lines l := by
    rw [clearAllStats_line]
    exact lineSound_clearStats (hs.lines l)
  ports := hs.ports
  frame := hs.frame

end

/-! ### Every command -/

section
variable {s t : State} (hs : ReceptionSound s)
include hs

theorem event_receptionSound {can : Bool} {eff : State → State} (h : event can eff s = .next t)
    (keeps : can = true → ReceptionSound (eff s)) : ReceptionSound t := by
  obtain ⟨hcan, rfl⟩ | ⟨-, rfl⟩ := event_next h
  · obtain ⟨lines, ports, frame⟩ := keeps hcan
    exact ⟨lines, ports, frame⟩
  · exact hs

/-- A served request keeps what its rule keeps: taking it and placing the answer touch no assembler. -/
theorem engineStep_receptionSound {kind : RequestKind} {rule : PortId → Request → State → Reply}
    (h : engineStep kind rule s = .next t)
    (keeps : ∀ p r u, ReceptionSound u → ReceptionSound (rule p r u).state) : ReceptionSound t := by
  refine event_receptionSound hs h fun _ => ?_
  unfold takeAndServe
  split
  · rename_i p r one two _
    have taken := (takeRequest_same p one two s).sound hs
    refine (placeAnswer_same _ _ _).sound ?_
    unfold examine
    split
    · split
      · exact taken
      · exact keeps _ _ _ taken
    · exact taken
  · exact hs

theorem engineStep_sameReception {kind : RequestKind} {rule : PortId → Request → State → Reply}
    (h : engineStep kind rule s = .next t) (same : ∀ p r u, SameReception u (rule p r u).state) : ReceptionSound t :=
  engineStep_receptionSound hs h fun p r u => (same p r u).sound

end

theorem breakFlag_of_lineTakes {l : LineId} {early : Bool} {s : State} (h : lineTakes l early s = true) :
    (s.line l).asm.breakFlag = false := by
  obtain ⟨-, -, flag⟩ := (lineTakes_iff l early s).mp h
  exact flag

theorem breakFlag_of_portTakes {p : PortId} {s : State} (h : portTakes p s = true) :
    (s.port p).asm.breakFlag = false := by
  simp only [portTakes, Bool.and_eq_true, Bool.not_eq_true'] at h
  exact h.2

theorem readSectionRule_state (p : PortId) (r : Request) (s : State) : (readSectionRule p r s).state = s := by
  unfold readSectionRule
  split <;> rfl

theorem readPointRule_state (p : PortId) (r : Request) (s : State) : (readPointRule p r s).state = s := by
  unfold readPointRule
  split <;> rfl

theorem readLineRule_state (p : PortId) (r : Request) (s : State) : (readLineRule p r s).state = s := by
  unfold readLineRule
  split <;> rfl

theorem exec_keeps_reception (c : Instr) (s t : State) (hs : ReceptionSound s) (h : exec c s = .next t) :
    ReceptionSound t := by
  cases c with
  | resetInputLow =>
    unfold exec execResetInputLow at h
    exact event_receptionSound hs h fun _ => ⟨hs.lines, hs.ports, hs.frame⟩
  | coldStart low => exact event_receptionSound hs h fun _ => coldStart_receptionSound low s
  | loadEnd image => exact event_receptionSound hs h fun _ => endLoad_receptionSound hs image
  | warmStart => exact event_receptionSound hs h fun _ => restartSent_receptionSound hs
  | answerSent p =>
    refine event_receptionSound hs h fun _ => ?_
    split
    · exact restartSent_receptionSound hs
    · exact sendHead_receptionSound hs p
  | timeBaseMillisecond => exact event_receptionSound hs h fun _ => tick_receptionSound hs
  | trkGoodCharacter l b early =>
    exact event_receptionSound hs h fun takes => lineCharacter_sound hs (breakFlag_of_lineTakes takes) b
  | trkFramingError l early =>
    unfold exec execTrkFramingError at h
    exact event_receptionSound hs h fun _ => setLine_receptionSound hs (lineSound_error (hs.lines l))
  | trkBreak l early =>
    unfold exec execTrkBreak at h
    exact event_receptionSound hs h fun _ => setLine_receptionSound hs (lineSound_breakSeen (hs.lines l))
  | trkBreakEnd l =>
    unfold exec execTrkBreakEnd at h
    exact event_receptionSound hs h fun _ => setLine_receptionSound hs
      { hs.lines l with asm := assemblerSound_searching _, held_le := Nat.zero_le _ }
  | trkGapTimeout l =>
    unfold exec execTrkGapTimeout at h
    exact event_receptionSound hs h fun _ => setLine_receptionSound hs
      { lineSound_searching (hs.lines l) with timeout_le := satAdd_le _ _ _ }
  | lineSilenceExpiry l =>
    unfold exec execLineSilenceExpiry at h
    exact event_receptionSound hs h fun _ => (SameReception.refl _).append.sound
      (setLine_receptionSound hs { hs.lines l with silence_up := rfl })
  | telegramDelivery l => exact event_receptionSound hs h fun _ => takeDelivery_receptionSound hs l
  | pointSilenceExpiry d =>
    exact event_receptionSound hs h fun _ => (SameReception.ofCounting (pointSilent_only d s)).sound hs
  | handOff span =>
    cases span with
    | whole => exact event_receptionSound hs h fun _ => (SameReception.ofCounting (handOffAll_only s)).sound hs
    | oneStep => exact event_receptionSound hs h fun _ => (SameReception.ofCounting (handOffOnce_only s)).sound hs
  | clearingTimerExpiry n =>
    exact event_receptionSound hs h fun _ => (SameReception.ofTable (putSection_only _ _ _ _).toTable).sound hs
  | confirmWindowExpiry k =>
    refine event_receptionSound hs h fun _ => ?_
    unfold expireTxn
    split
    · exact (SameReception.ofTable (endTxn_only _ _ _ _)).sound hs
    · exact hs
  | dwellTimerExpiry p =>
    unfold exec execDwellTimerExpiry at h
    exact event_receptionSound hs h fun _ => (SameReception.ofJournal (setWatch_only _ _ _)).sound hs
  | portGoodCharacter p b =>
    exact event_receptionSound hs h fun takes => portCharacter_sound hs (breakFlag_of_portTakes takes) b
  | rejoin p tag => exact event_receptionSound hs h fun _ => (handleFrame_same _ _ _ _).sound hs
  | portFramingError p => exact event_receptionSound hs h fun _ => discardFrame_sound hs p
  | portBreak p => exact event_receptionSound hs h fun _ => linkReset_sound hs p
  | portBreakEnd p =>
    unfold exec execPortBreakEnd at h
    exact event_receptionSound hs h fun _ => setPort_receptionSound hs (frameSound_searching _)
  | portGapTimeout p => exact event_receptionSound hs h fun _ => discardFrame_sound hs p
  | status => exact engineStep_sameReception hs h fun _ _ u => .refl u
  | summary => exact engineStep_sameReception hs h fun _ _ u => .refl u
  | readSection => exact engineStep_receptionSound hs h fun p r u hu => (readSectionRule_state p r u).symm ▸ hu
  | readPoint => exact engineStep_receptionSound hs h fun p r u hu => (readPointRule_state p r u).symm ▸ hu
  | readLine => exact engineStep_receptionSound hs h fun p r u hu => (readLineRule_state p r u).symm ▸ hu
  | selectView =>
    refine engineStep_sameReception hs h fun p r u => ?_
    unfold selectViewRule
    split
    · exact .setPort rfl
    · exact .refl u
  | readNext => exact engineStep_sameReception hs h fun _ _ _ => .setPort rfl
  | journalRead =>
    refine engineStep_sameReception hs h fun p r u => ?_
    unfold journalReadRule
    dsimp only
    split <;> exact .ofJournal (setWatch_only _ _ _)
  | journalSeek =>
    refine engineStep_sameReception hs h fun p r u => ?_
    unfold journalSeekRule
    split
    · exact .refl u
    · exact .ofJournal (setWatch_only _ _ _)
  | identify => exact engineStep_sameReception hs h fun _ _ _ => .ofJournal (setWatch_only _ _ _)
  | setMask => exact engineStep_sameReception hs h fun _ _ _ => .ofJournal (setWatch_only _ _ _)
  | setInhibit => exact engineStep_sameReception hs h setInhibitRule_same
  | proposeReset => exact engineStep_sameReception hs h proposeResetRule_same
  | confirmReset => exact engineStep_sameReception hs h confirmResetRule_same
  | cancelReset => exact engineStep_sameReception hs h cancelResetRule_same
  | clearStatistics =>
    exact engineStep_receptionSound hs h fun _ _ _ hu => clearAllStats_receptionSound hu
  | restart => exact engineStep_sameReception hs h fun _ _ _ => ⟨fun _ => rfl, fun _ => rfl⟩

/-- Settles O55: every command keeps each line and each port's assembler sound, by the rule of its chapter. -/
theorem receptionKept : Obligations.ReceptionKept := by
  unfold Obligations.ReceptionKept
  exact step_keeps (fun _ _ h => ⟨h.lines, h.ports, h.frame⟩) exec_keeps_reception

end Sys2Proof.Proofs
end

section
/-! Proofs: READ SECTION, READ POINT and READ LINE (R31, R57, R99): the bytes of the records of 10.5. -/

namespace Sys2Proof.Proofs

open Sys2Proof.Machine Sys2Proof.Safety Sys2Proof.Claims

/-! ### Fields of the records (10.5, 10.8) -/

theorem sectionCode_mem (x : SectionName) : (x, sectionCode x) ∈ sectionCodes := by cases x <;> decide

theorem pointCode_mem (x : PointName) : (x, pointCode x) ∈ pointCodes := by cases x <;> decide

theorem causeCode_mem (q : Cause) : (q, causeCode (some q)) ∈ causeCodes := by cases q <;> decide

theorem causeIs_causeCode (x : Option Cause) : CauseIs (causeCode x) x := by
  cases x with
  | none => rfl
  | some q => exact causeCode_mem q

theorem sectionOrNone_eq (x : Option SectionId) : sectionOrNone x = sideByte x := by cases x <;> rfl

theorem sideCode_eq (x : Side) : sideCode x = if x = .a then 0 else 1 := by cases x <;> rfl

/-- Five flags in the bits 0 to 4 of a byte. -/
theorem flagsAre_byteOf : ∀ f0 f1 f2 f3 f4 : Bool,
    FlagsAre (byteOf (bitAt 0 f0 + bitAt 1 f1 + bitAt 2 f2 + bitAt 3 f3 + bitAt 4 f4)) f0 f1 f2 f3 f4 := by
  unfold FlagsAre
  decide

theorem clearingBytes_spec (m : SectionMode) :
    ∃ hi lo : Byte, clearingBytes m = [hi, lo] ∧ (∀ r, m = .clearing r → hi ++ lo = BitVec.ofNat 16 r) ∧
      (m.name ≠ .clearing → hi ++ lo = (0xFFFF : Half)) := by
  cases m with
  | clearing r =>
    refine ⟨_, _, rfl, fun q h => ?_, fun h => absurd rfl h⟩
    rw [byteOf_append_byteOf, SectionMode.clearing.inj h]
  | unused | disturbed | prepared | sweeping | occupied | clear =>
    exact ⟨_, _, rfl, (fun _ h => nomatch h), fun _ => rfl⟩

theorem timerBytes_spec (t : Option Nat) :
    ∃ hi lo : Byte, timerBytes t = [hi, lo] ∧ (∀ r, t = some r → hi ++ lo = BitVec.ofNat 16 r) ∧
      (t = none → hi ++ lo = (0xFFFF : Half)) := by
  cases t with
  | none => exact ⟨_, _, rfl, (fun _ h => nomatch h), fun _ => rfl⟩
  | some r =>
    refine ⟨_, _, rfl, fun q h => ?_, fun h => nomatch h⟩
    rw [byteOf_append_byteOf, Option.some.inj h]

/-- The five bytes that depend on the state of a point, wherever a record carries them as its bytes 9 to 13. -/
theorem modeBytes_spec (m : PointMode) :
    ∃ b9 b10 b11 b12 b13 : Byte, modeBytes m = [b9, b10, b11, b12, b13] ∧
      ∀ bs, byteAt bs 9 = b9 → byteAt bs 10 = b10 → byteAt bs 11 = b11 → byteAt bs 12 = b12 → byteAt bs 13 = b13 →
        PointModeIs bs m := by
  have seqByte (q : BitVec 3) : (byteOf q.toNat).toNat = q.toNat := byteOf_toNat (by omega)
  cases m with
  | inSync last older bAB bBA e =>
    refine ⟨_, _, _, _, _, rfl, fun bs h9 h10 h11 h12 h13 => ⟨h9 ▸ seqByte e, h10, h11, h12.trans ?_, h13⟩⟩
    cases older <;> rfl
  | pending c => exact ⟨_, _, _, _, _, rfl, fun bs h9 h10 h11 h12 h13 => ⟨h9, h10, h11, h12, h13 ▸ seqByte c.seq⟩⟩
  | unused | hunt | faulted | lost =>
    exact ⟨_, _, _, _, _, rfl, fun bs h9 h10 h11 h12 h13 => ⟨h9, h10, h11, h12, h13⟩⟩

/-! ### The section record (R99) -/

/-- The two bytes of a place in the boundary list of a record. -/
def boundaryEntry (b : Option Boundary) : Byte × Byte :=
  match b with
  | some b => (byteOf b.point.val, sideCode b.side)
  | none => (0xFF, 0xFF)

theorem boundaryBytes_eq (bs : List Boundary) :
    boundaryBytes bs = (List.range 6).flatMap fun i => [(boundaryEntry bs[i]?).1, (boundaryEntry bs[i]?).2] := by
  unfold boundaryBytes
  congr 1
  funext i
  cases bs[i]? <;> rfl

/-- The bytes of the record one by one, where `hi` and `lo` are its clearing time. -/
theorem usedSectionRecord_bytes (n : SectionId) (x : Section) (c : SectionCfg) {hi lo : Byte}
    (clearing : clearingBytes x.mode = [hi, lo]) :
    usedSectionRecord n x c =
      byteOf n.val :: 0x01 :: sectionCode x.mode.name :: byteOf (x.net / 256) :: byteOf x.net ::
      byteOf (x.inTally / 256) :: byteOf x.inTally :: byteOf (x.outTally / 256) :: byteOf x.outTally ::
      sectionFlags x c :: causeCode x.mode.cause :: byteOf x.repeatCount :: hi :: lo :: x.openTxn.getD 0 ::
      byteOf (c.clearDelay / 256) :: byteOf c.clearDelay :: byteOf x.boundary.length :: boundaryBytes x.boundary := by
  rw [usedSectionRecord, clearing]
  rfl

theorem boundaryBytes_length (bs : List Boundary) : (boundaryBytes bs).length = 12 := by
  rw [boundaryBytes_eq]
  rfl

theorem boundaryBytes_entry (bs : List Boundary) {i : Nat} (h : i < 6) :
    byteAt (boundaryBytes bs) (2 * i) = (boundaryEntry bs[i]?).1 ∧
      byteAt (boundaryBytes bs) (2 * i + 1) = (boundaryEntry bs[i]?).2 := by
  rw [boundaryBytes_eq]
  interval_cases i <;> exact ⟨rfl, rfl⟩

/-- The boundary list stands at byte 18 of the record. -/
theorem usedSectionRecord_entry (n : SectionId) (x : Section) (c : SectionCfg) {i : Nat} (h : i < 6) :
    byteAt (usedSectionRecord n x c) (18 + 2 * i) = (boundaryEntry x.boundary[i]?).1 ∧
      byteAt (usedSectionRecord n x c) (19 + 2 * i) = (boundaryEntry x.boundary[i]?).2 := by
  obtain ⟨hi, lo, clearing, -⟩ := clearingBytes_spec x.mode
  rw [usedSectionRecord_bytes n x c clearing, Nat.add_comm 18, Nat.add_comm 19]
  exact boundaryBytes_entry x.boundary h

theorem usedSectionRecord_is (n : SectionId) (x : Section) (c : SectionCfg) :
    SectionRecordIs (usedSectionRecord n x c) n x c := by
  obtain ⟨hi, lo, clearing, running, stopped⟩ := clearingBytes_spec x.mode
  have entry {i : Nat} (h : i < 6) := usedSectionRecord_entry n x c h
  rw [usedSectionRecord_bytes n x c clearing] at entry ⊢
  exact {
    length := congrArg (· + 18) (boundaryBytes_length x.boundary)
    number := byteOf_toNat (by omega)
    used := rfl
    state := sectionCode_mem _
    net := byteOf_append_byteOf _
    inTally := byteOf_append_byteOf _
    outTally := byteOf_append_byteOf _
    flags := flagsAre_byteOf _ _ _ _ _
    cause := fun q h => by
      change (q, causeCode x.mode.cause) ∈ causeCodes
      rw [h]
      exact causeCode_mem q
    noCause := fun h => by
      change causeCode x.mode.cause = 0
      cases mode : x.mode with
      | disturbed q => exact absurd (congrArg SectionMode.name mode) h
      | _ => rfl
    repeats := rfl
    clearing := running
    notClearing := stopped
    openTxn := rfl
    delay := byteOf_append_byteOf _
    entries := rfl
    boundary := fun i h b hb => by
      obtain ⟨point, side⟩ := entry h
      rw [point, side, hb]
      exact ⟨byteOf_toNat (by omega), sideCode_eq _⟩
    beyond := fun i h hb => by
      obtain ⟨point, side⟩ := entry h
      rw [point, side, hb]
      exact ⟨rfl, rfl⟩ }

theorem unusedSectionRecord_eq (n : SectionId) : unusedSectionRecord n = unusedSectionBytes n := rfl

theorem sectionRecord_answer (n : SectionId) (s : State) : SectionAnswer (sectionRecord n s) n s := by
  unfold sectionRecord
  constructor
  · intro c used
    rw [used]
    exact usedSectionRecord_is n _ c
  · intro unused
    rw [unused]
    exact unusedSectionRecord_eq n

/-! ### The point record (R57) -/

theorem usedPointRecord_is (d : PointId) (x : Point) (c : PointCfg) : PointRecordIs (usedPointRecord d x c) d x c := by
  obtain ⟨b9, b10, b11, b12, b13, mode, modeIs⟩ := modeBytes_spec x.mode
  obtain ⟨hi, lo, timer, running, stopped⟩ := timerBytes_spec x.silence
  rw [usedPointRecord, mode, timer]
  exact {
    length := rfl
    number := byteOf_toNat (by omega)
    used := rfl
    state := pointCode_mem _
    sides := ⟨sectionOrNone_eq _, sectionOrNone_eq _⟩
    lines := ⟨byteOf_toNat (by omega), byteOf_toNat (by omega)⟩
    limits := ⟨rfl, rfl⟩
    mode := modeIs _ rfl rfl rfl rfl rfl
    flags := flagsAre_byteOf _ _ _ _ _
    lastLine := fun l h => by
      change (lineOrAbsent x.lastLine).toNat = l.val
      rw [h]
      exact byteOf_toNat (by omega)
    noLine := fun h => by
      change lineOrAbsent x.lastLine = 0xFF
      rw [h]
      rfl
    lastCause := causeIs_causeCode _
    silence := running
    silent := stopped
    stats := ⟨byteOf_append_byteOf _, byteOf_append_byteOf _, byteOf_append_byteOf _, byteOf_append_byteOf _,
      byteOf_append_byteOf _, byteOf_append_byteOf _⟩ }

theorem unusedPointRecord_is (d : PointId) (x : Point) : UnusedPointRecordIs (unusedPointRecord d x) d x :=
  ⟨rfl, rfl, byteOf_append_byteOf _, byteOf_append_byteOf _, byteOf_append_byteOf _, byteOf_append_byteOf _,
    byteOf_append_byteOf _, byteOf_append_byteOf _⟩

theorem pointRecord_answer (d : PointId) (s : State) : PointAnswer (pointRecord d s) d s := by
  unfold pointRecord
  constructor
  · intro c used
    rw [used]
    exact usedPointRecord_is d _ c
  · intro unused
    rw [unused]
    exact unusedPointRecord_is d _

/-! ### The line record (R31) -/

theorem sinceLastValid_le (x : Line) (time : Word) : sinceLastValid x time ≤ 65535 := by
  unfold sinceLastValid
  split
  · exact Nat.min_le_left _ _
  · exact Nat.le_refl _

theorem lineRecord_is (l : LineId) (s : State) : LineRecordIs (lineRecord l s) l (s.line l) s.time where
  length := rfl
  number := byteOf_toNat (by omega)
  state := rfl
  valid := byteOf_append_byteOf _
  check := byteOf_append_byteOf _
  timeout := byteOf_append_byteOf _
  lineError := byteOf_append_byteOf _
  misrouted := byteOf_append_byteOf _
  since v h := by
    have field : halfAt (lineRecord l s) 12 = BitVec.ofNat 16 (sinceLastValid (s.line l) s.time) :=
      byteOf_append_byteOf _
    have small := sinceLastValid_le (s.line l) s.time
    rw [field, BitVec.toNat_ofNat, Nat.mod_eq_of_lt (by omega), sinceLastValid, h]
    rfl
  never h := by
    refine (byteOf_append_byteOf (sinceLastValid (s.line l) s.time)).trans ?_
    rw [sinceLastValid, h]
    rfl

/-! ### The three requests -/

section
variable {k m : Nat}

theorem numbered_of_lt (i : Fin k) (h : i.val = m) :
    (if lt : m < k then some (⟨m, lt⟩ : Fin k) else none) = some i := by
  subst h
  exact dif_pos i.isLt

theorem numbered_of_le (h : k ≤ m) : (if lt : m < k then some (⟨m, lt⟩ : Fin k) else none) = none :=
  dif_neg (Nat.not_lt.mpr h)

end

section
variable {s : State} {p : PortId} {r : Request} {queue : List Request} {one : RingOne} {two : RingTwo}
  {rule : PortId → Request → State → Reply}

/-- In RUNNING a request that its port may make comes to its own rule (R158). -/
theorem examine_running (running : s.part = .running) (right : permitted p r.kind = true) :
    examine rule p r (takeRequest p one two s) = rule p r (takeRequest p one two s) :=
  examine_rule right fun unconfigured => nomatch running.symm.trans unconfigured

/-- A request in RUNNING that names one of `k` records by its first byte: RANGE beyond the last, else OK with the record,
and nothing else changes. -/
theorem engineStep_numbered {k : Nat} {record : Fin k → State → List Byte} {answers : Fin k → List Byte → Prop}
    (takes : Takes s p r queue one two) (running : s.part = .running) (right : permitted p r.kind = true)
    (other : r.kind ≠ .restart)
    (range : k ≤ (r.byte 0).toNat → ∀ u, rule p r u = refuse .range u)
    (okays : ∀ m : Fin k, m.val = (r.byte 0).toNat → ∀ u, rule p r u = okay (record m u) u)
    (holds : ∀ m, answers m (record m (takeRequest p one two s))) :
    (k ≤ (r.byte 0).toNat →
      ∃ t, engineStep r.kind rule s = .next t ∧ Settled t (Answered s p r queue one two .range [])) ∧
    ∀ m : Fin k, m.val = (r.byte 0).toNat →
      ∃ t bs, engineStep r.kind rule s = .next t ∧ Settled t (Answered s p r queue one two .ok bs) ∧ answers m bs := by
  have own := examine_running (rule := rule) (one := one) (two := two) running right
  constructor
  · intro beyond
    exact engineStep_refused takes (by decide) (own.trans (range beyond _))
  · intro m named
    obtain ⟨t, ht, settled⟩ := engineStep_okay takes other (own.trans (okays m named _))
    exact ⟨t, _, ht, settled, holds m⟩

end

section
variable {p : PortId} {r : Request}

theorem readSectionRule_range (h : 24 ≤ (r.byte 0).toNat) (u : State) : readSectionRule p r u = refuse .range u := by
  have beyond : sectionOfByte (r.byte 0) = none := numbered_of_le h
  rw [readSectionRule, beyond]

theorem readSectionRule_okay {n : SectionId} (h : n.val = (r.byte 0).toNat) (u : State) :
    readSectionRule p r u = okay (sectionRecord n u) u := by
  have named : sectionOfByte (r.byte 0) = some n := numbered_of_lt n h
  rw [readSectionRule, named]

theorem readPointRule_range (h : 32 ≤ (r.byte 0).toNat) (u : State) : readPointRule p r u = refuse .range u := by
  have beyond : pointOfByte (r.byte 0) = none := numbered_of_le h
  rw [readPointRule, beyond]

theorem readPointRule_okay {d : PointId} (h : d.val = (r.byte 0).toNat) (u : State) :
    readPointRule p r u = okay (pointRecord d u) u := by
  have named : pointOfByte (r.byte 0) = some d := numbered_of_lt d h
  rw [readPointRule, named]

theorem readLineRule_range (h : 4 ≤ (r.byte 0).toNat) (u : State) : readLineRule p r u = refuse .range u := by
  have beyond : lineOfByte (r.byte 0) = none := numbered_of_le h
  rw [readLineRule, beyond]

theorem readLineRule_okay {l : LineId} (h : l.val = (r.byte 0).toNat) (u : State) :
    readLineRule p r u = okay (lineRecord l u) u := by
  have named : lineOfByte (r.byte 0) = some l := numbered_of_lt l h
  rw [readLineRule, named]

end

/-- Settles O47: the number decides between RANGE and the record, whose fields the three record lemmas give. -/
theorem recordReads : Obligations.RecordReads := by
  unfold Obligations.RecordReads
  intro s p r queue one two takes running n
  refine ⟨fun kind => ?_, fun kind => ?_, fun kind => ?_⟩
  all_goals
    have right : permitted p r.kind = true := by rw [kind]; rfl
    have other : r.kind ≠ .restart := by rw [kind]; decide
  · have read := engineStep_numbered (answers := fun m bs => SectionAnswer bs m s) takes running right other
      readSectionRule_range (fun _ => readSectionRule_okay) fun m => sectionRecord_answer m s
    rw [kind] at read
    exact read
  · have read := engineStep_numbered (answers := fun d bs => PointAnswer bs d s) takes running right other
      readPointRule_range (fun _ => readPointRule_okay) fun d => pointRecord_answer d s
    rw [kind] at read
    exact read
  · have read := engineStep_numbered (answers := fun l bs => LineRecordIs bs l (s.line l) s.time) takes running right
      other readLineRule_range (fun _ => readLineRule_okay) fun l => lineRecord_is l s
    rw [kind] at read
    exact read

end Sys2Proof.Proofs
end

section
/-! Proofs: detection point supervision (chapter 3): what TELEGRAM_DELIVERY and POINT_SILENCE_EXPIRY do in each state
of a point. -/

namespace Sys2Proof.Proofs

open Sys2Proof.Machine Sys2Proof.Safety Sys2Proof.Claims

theorem headFault_iff (t : Telegram) : t.headFault = true ↔ Faulty t := Bool.or_eq_true_iff

/-! ### The rules of HUNT, LOST, FAULTED and PENDING (R36 to R39) -/

section
variable {d : PointId} {x : Point} {t : Telegram} {s : State}

theorem toFaulted_eq : toFaulted d x t s =
    append (pointRecordOf d x.mode.name .faulted (some .headFault))
      (s.setPoint d { x with mode := .faulted, fault1 := t.fault1, fault2 := t.fault2 }) := rfl

theorem toPending_eq : toPending d x t s =
    append (pointRecordOf d x.mode.name .pending none)
      (s.setPoint d { x with mode := .pending t, fault1 := false, fault2 := false }) := rfl

theorem huntTelegram_free (free : ¬ Faulty t) : huntTelegram d x t s = toPending d x t s :=
  if_neg ((headFault_iff t).not.mpr free)

theorem huntTelegram_faulty (faulty : Faulty t) : huntTelegram d x t s = toFaulted d x t s :=
  if_pos ((headFault_iff t).mpr faulty)

theorem faultedTelegram_free (free : ¬ Faulty t) : faultedTelegram d x t s = toPending d x t s :=
  if_neg ((headFault_iff t).not.mpr free)

theorem faultedTelegram_faulty (faulty : Faulty t) : faultedTelegram d x t s = s.setPoint d (x.takeFaults t) :=
  if_pos ((headFault_iff t).mpr faulty)

variable {cand : Telegram}

theorem pendingTelegram_faulty (faulty : Faulty t) : pendingTelegram d x cand t s = toFaulted d x t s :=
  if_pos ((headFault_iff t).mpr faulty)

/-- Without head fault, the last three tests of R37 decide. -/
theorem pendingTelegram_free (free : ¬ Faulty t) :
    pendingTelegram d x cand t s =
      if t.seq = cand.seq + 1 then enterSync d x cand t s
      else if t = cand then s.setPoint d { x with stats := x.stats.countDuplicate }
      else s.setPoint d { x with mode := .pending t } :=
  if_neg ((headFault_iff t).not.mpr free)

/-- An identical telegram does not follow the candidate: no sequence is its own successor modulo 8. -/
theorem seq_ne_next_of_eq (same : t = cand) : t.seq ≠ cand.seq + 1 := by
  subst same
  bv_omega

end

/-! ### Classification (R41) -/

/-- A sequence `g` ahead of the expected one is told by its difference. -/
theorem ahead_of_add (e : BitVec 3) {g : Nat} (small : g ≤ 5) : (e + BitVec.ofNat 3 g - e).toNat = g := by
  bv_omega

/-- Settles O17: the difference of each sequence from the expected one, and the branch of R41 it comes to. -/
theorem telegramClassification : Obligations.TelegramClassification := by
  unfold Obligations.TelegramClassification
  intro s e G last older limit
  have beyond7 : ¬ 7 ≤ G := by omega
  have beyond6 : ¬ 6 ≤ G := by omega
  refine ⟨?normal, ?gap, ?last, ?older, ?noOlder, ?beyond⟩
  case normal =>
    intro expected
    have ahead : (s - e).toNat = 0 := by bv_omega
    simp [classify, ahead]
  case gap =>
    rintro g missing within rfl
    have notNormal : g ≠ 0 := by omega
    simp only [classify, ahead_of_add e (within.trans limit), notNormal, within, if_true, if_false]
  case last =>
    intro repeats
    have ahead : (s - e).toNat = 7 := by bv_omega
    simp [classify, ahead, beyond7]
  case older =>
    rintro o repeats rfl
    have ahead : (s - e).toNat = 6 := by bv_omega
    simp [classify, ahead, beyond6]
  case noOlder =>
    rintro repeats rfl
    have ahead : (s - e).toNat = 6 := by bv_omega
    simp [classify, ahead, beyond6]
  case beyond =>
    rintro g beyond small rfl
    have notNormal : g ≠ 0 := by omega
    have notGap : ¬ g ≤ G := by omega
    have notLast : g ≠ 7 := by omega
    have notOlder : g ≠ 6 := by omega
    simp only [classify, ahead_of_add e small, notNormal, notGap, notLast, notOlder, if_false]

/-! ### The steps of R42 and R43 -/

/-- A context after `g` missing telegrams have been counted (R44). -/
def missed (g : Nat) (x : Point) : Point :=
  { x with stats := { x.stats with lost := if g = 0 then x.stats.lost else min 65535 (x.stats.lost + g) } }

theorem missed_zero (x : Point) : missed 0 x = x := rfl

theorem missed_of_ne {g : Nat} (h : g ≠ 0) (x : Point) : missed g x = { x with stats := x.stats.countLost g } := by
  simp only [missed, h, if_false]
  rfl

section
variable {d : PointId} {c : PointCfg} {x : Point} {last : Telegram} {older : Option Telegram} {bAB bBA : Byte}
  {e : BitVec 3} {t : Telegram} {s : State}

/-- A copy is compared with its original, whatever flags it carries (R43). -/
theorem inSyncTelegram_copy {original : Telegram} (cls : classify t.seq e c.gapLimit last older = .copy original) :
    inSyncTelegram d c x last older bAB bBA e t s =
      if t = original then s.setPoint d { x with stats := x.stats.countDuplicate }
      else depart d c x .conflict (some t) s := by
  simp only [inSyncTelegram, cls]

theorem inSyncTelegram_restart (noCopy : ∀ o, classify t.seq e c.gapLimit last older ≠ .copy o)
    (restart : t.restart = true) :
    inSyncTelegram d c x last older bAB bBA e t s = depart d c x .pointRestart (some t) s := by
  cases cls : classify t.seq e c.gapLimit last older with
  | copy o => exact absurd cls (noCopy o)
  | _ => simp only [inSyncTelegram, cls, restart, if_true]

theorem inSyncTelegram_faulty (noCopy : ∀ o, classify t.seq e c.gapLimit last older ≠ .copy o)
    (noRestart : t.restart = false) (faulty : Faulty t) :
    inSyncTelegram d c x last older bAB bBA e t s = depart d c x .headFault (some t) s := by
  have fault := (headFault_iff t).mpr faulty
  cases cls : classify t.seq e c.gapLimit last older with
  | copy o => exact absurd cls (noCopy o)
  | _ => simp [inSyncTelegram, cls, noRestart, fault]

theorem inSyncTelegram_break (cls : classify t.seq e c.gapLimit last older = .break) (noRestart : t.restart = false)
    (free : ¬ Faulty t) :
    inSyncTelegram d c x last older bAB bBA e t s = depart d c x .sequence (some t) s := by
  simp [inSyncTelegram, cls, noRestart, (headFault_iff t).not.mpr free]

/-- A NORMAL or GAP telegram that passes the first steps comes to the plausibility test, its gap counted (R44). -/
theorem inSyncTelegram_judged {g : Nat}
    (cls : classify t.seq e c.gapLimit last older = if g = 0 then .normal else .gap g) (noRestart : t.restart = false)
    (free : ¬ Faulty t) :
    inSyncTelegram d c x last older bAB bBA e t s = judgeCounts d c (missed g x) last bAB bBA t g s := by
  have noFault := (headFault_iff t).not.mpr free
  by_cases noGap : g = 0
  · subst noGap
    rw [if_pos rfl] at cls
    simp [inSyncTelegram, cls, noRestart, noFault, missed_zero]
  · rw [if_neg noGap] at cls
    simp [inSyncTelegram, cls, noRestart, noFault, missed_of_ne noGap]

theorem judgeCounts_plausible {g : Nat} (small : (t.cAB - bAB).toNat + (t.cBA - bBA).toNat ≤ c.axleLimit * (g + 1)) :
    judgeCounts d c x last bAB bBA t g s = acceptTelegram d x last t (t.cAB - bAB) (t.cBA - bBA) g s :=
  if_pos (decide_eq_true small)

theorem judgeCounts_implausible {g : Nat}
    (large : c.axleLimit * (g + 1) < (t.cAB - bAB).toNat + (t.cBA - bBA).toNat) :
    judgeCounts d c x last bAB bBA t g s = depart d c x .implausible (some t) s :=
  if_neg fun fits => large.not_ge (of_decide_eq_true fits)

end

/-! ### A delivery, by the state of its point (R35) -/

section
variable {s : State} {l : LineId} {del : Delivery} {rest : List Delivery} {c : PointCfg}

/-- A delivery that can be taken is taken from its line and handled, and the attention lines are decided. -/
theorem delivery_settled (h : Delivers s l del rest c) :
    ∃ t, exec (.telegramDelivery l) s = .next t ∧ Settled t (supervise l del (taken s l rest)) := by
  obtain ⟨service, idle, waiting, -⟩ := h
  refine settled_event (can := s.inService && s.handOff.isNone && !(s.line l).deliveries.isEmpty) ?_ ?_
  · simp [(inService_iff s).mpr service, idle, waiting]
  · rw [takeDelivery, waiting]
    rfl

/-- The context stands in the table with its last line and timer set before the rule of its state is applied. -/
theorem heard_taken : ((taken s l rest).point del.point).heard c l = heardPoint s l del c := rfl

theorem heardPoint_mode : (heardPoint s l del c).mode = (s.point del.point).mode := rfl

theorem taken_used (h : Delivers s l del rest c) : ((taken s l rest).point del.point).cfg = some c := by
  obtain ⟨-, -, -, used⟩ := h
  exact used

theorem supervise_huntOrLost (h : Delivers s l del rest c)
    (mode : (s.point del.point).mode = .hunt ∨ (s.point del.point).mode = .lost) :
    supervise l del (taken s l rest) =
      huntTelegram del.point (heardPoint s l del c) del.telegram (taken s l rest) := by
  obtain mode | mode := mode <;> simp only [supervise, taken_used h, heard_taken, heardPoint_mode, mode]

theorem supervise_faulted (h : Delivers s l del rest c) (mode : (s.point del.point).mode = .faulted) :
    supervise l del (taken s l rest) =
      faultedTelegram del.point (heardPoint s l del c) del.telegram (taken s l rest) := by
  simp only [supervise, taken_used h, heard_taken, heardPoint_mode, mode]

theorem supervise_pending (h : Delivers s l del rest c) {cand : Telegram}
    (mode : (s.point del.point).mode = .pending cand) :
    supervise l del (taken s l rest) =
      pendingTelegram del.point (heardPoint s l del c) cand del.telegram (taken s l rest) := by
  simp only [supervise, taken_used h, heard_taken, heardPoint_mode, mode]

theorem supervise_inSync (h : Delivers s l del rest c) {last : Telegram} {older : Option Telegram} {bAB bBA : Byte}
    {e : BitVec 3} (mode : (s.point del.point).mode = .inSync last older bAB bBA e) :
    supervise l del (taken s l rest) =
      inSyncTelegram del.point c (heardPoint s l del c) last older bAB bBA e del.telegram (taken s l rest) := by
  simp only [supervise, taken_used h, heard_taken, heardPoint_mode, mode]

end

/-- Settles O15: the rule of the point's state, by the head fault flags of the telegram. -/
theorem telegramOutsideSync : Obligations.TelegramOutsideSync := by
  unfold Obligations.TelegramOutsideSync
  intro s l del rest c h d tel x s0
  obtain ⟨t, next, settled⟩ := delivery_settled h
  refine ⟨fun mode free => ⟨t, next, ?_⟩, fun mode faulty => ⟨t, next, ?_⟩, fun mode free => ⟨t, next, ?_⟩,
    fun mode faulty => ⟨t, next, ?_⟩⟩
  · rwa [supervise_huntOrLost h mode, huntTelegram_free free, toPending_eq] at settled
  · rwa [supervise_huntOrLost h mode, huntTelegram_faulty faulty, toFaulted_eq] at settled
  · rw [supervise_faulted h mode, faultedTelegram_free free, toPending_eq] at settled
    have name : (s.point d).mode.name = .faulted := congrArg PointMode.name mode
    rwa [← name]
  · rwa [supervise_faulted h mode, faultedTelegram_faulty faulty] at settled

/-- Settles O16: the tests of R37 in their order; an identical telegram fails the second. -/
theorem telegramInPending : Obligations.TelegramInPending := by
  unfold Obligations.TelegramInPending
  intro s l del rest c cand h mode d tel x s0
  obtain ⟨t, next, settled⟩ := delivery_settled h
  rw [supervise_pending h mode] at settled
  refine ⟨t, next, fun faulty => ?_, fun free follows => ?_, fun free same => ?_, fun free strays differs => ?_⟩
  · rw [pendingTelegram_faulty faulty, toFaulted_eq] at settled
    have name : (s.point d).mode.name = .pending := congrArg PointMode.name mode
    rwa [← name]
  · rwa [pendingTelegram_free free, if_pos follows] at settled
  · rwa [pendingTelegram_free free, if_neg (seq_ne_next_of_eq same), if_pos same] at settled
  · rwa [pendingTelegram_free free, if_neg strays, if_neg differs] at settled

/-- Settles O18: the telegram comes to the plausibility test with its gap counted, and passes it. -/
theorem telegramAccepted : Obligations.TelegramAccepted := by
  unfold Obligations.TelegramAccepted
  intro s l del rest c last older bAB bBA e g h mode cls noRestart free small d tel x
  obtain ⟨t, next, settled⟩ := delivery_settled h
  rw [supervise_inSync h mode, inSyncTelegram_judged cls noRestart free, judgeCounts_plausible small] at settled
  exact ⟨t, next, settled⟩

/-- Settles O19: a copy is compared with its original. -/
theorem telegramCopy : Obligations.TelegramCopy := by
  unfold Obligations.TelegramCopy
  intro s l del rest c last original older bAB bBA e h mode cls x
  obtain ⟨t, next, settled⟩ := delivery_settled h
  rw [supervise_inSync h mode, inSyncTelegram_copy cls] at settled
  refine ⟨t, next, fun same => ?_, fun differs => ?_⟩
  · rwa [if_pos same] at settled
  · rwa [if_neg differs] at settled

/-- Settles O20: each departure by the step of R42 that decides; an implausible one by the test of R59. -/
theorem telegramDeparts : Obligations.TelegramDeparts := by
  unfold Obligations.TelegramDeparts
  intro s l del rest c last older bAB bBA e h mode tel cls x s0 sum noCopy
  obtain ⟨t, next, settled⟩ := delivery_settled h
  rw [supervise_inSync h mode] at settled
  refine ⟨t, next, fun restart => ?_, fun noRestart faulty => ?_, fun noRestart free isBreak => ?_,
    fun noRestart free isNormal large => ?_, fun g noRestart free isGap large => ?_⟩
  · rwa [inSyncTelegram_restart noCopy restart] at settled
  · rwa [inSyncTelegram_faulty noCopy noRestart faulty] at settled
  · rwa [inSyncTelegram_break isBreak noRestart free] at settled
  · have limit : c.axleLimit * (0 + 1) < sum := by rwa [Nat.zero_add, Nat.mul_one]
    rwa [inSyncTelegram_judged (g := 0) isNormal noRestart free, judgeCounts_implausible limit] at settled
  · have counted := classify_gap isGap
    rwa [inSyncTelegram_judged (isGap.trans (if_neg counted).symm) noRestart free, judgeCounts_implausible large,
      missed_of_ne counted] at settled

/-! ### Silence (R51) -/

section
variable {s : State} {d : PointId} {c : PointCfg}

theorem pointSilent_inSync (used : (s.point d).cfg = some c) (mode : (s.point d).mode.name = .inSync) :
    pointSilent d s = depart d c (s.point d) .pointLost none s := by
  cases is : (s.point d).mode with
  | inSync last older bAB bBA e => simp only [pointSilent, used, is]
  | unused | hunt | pending _ | faulted | lost => exact nomatch (congrArg PointMode.name is).symm.trans mode

theorem pointSilent_pendingOrFaulted (used : (s.point d).cfg = some c)
    (mode : (s.point d).mode.name = .pending ∨ (s.point d).mode.name = .faulted) :
    pointSilent d s = append (pointRecordOf d (s.point d).mode.name .lost (some .pointLost))
      (s.setPoint d { s.point d with mode := .lost, silence := none }) := by
  cases is : (s.point d).mode with
  | pending _ | faulted =>
    simp only [pointSilent, used, is]
    rfl
  | unused | hunt | inSync _ _ _ _ _ | lost =>
    rw [is] at mode
    exact nomatch mode

end

/-- Settles O22: a departure from IN_SYNC, a change of state from PENDING and FAULTED. -/
theorem pointSilenceExpires : Obligations.PointSilenceExpires := by
  unfold Obligations.PointSilenceExpires
  intro s d c service used expired
  have can : (s.inService && timerDue (s.point d).silence) = true := by
    simp [(inService_iff s).mpr service, expired, timerDue]
  exact ⟨fun mode => settled_event can (pointSilent_inSync used mode),
    fun mode => settled_event can (pointSilent_pendingOrFaulted used mode)⟩

end Sys2Proof.Proofs
end

section
/-! Proofs: count arithmetic (chapter 4): the plausibility test and one application (R58, R59, R65 to R70). -/

namespace Sys2Proof.Proofs

open Sys2Proof.Machine Sys2Proof.Safety Sys2Proof.Claims

/-! ### The plausibility test (R58, R59) -/

theorem plausible_iff (dAB dBA : Byte) (L g : Nat) :
    plausible dAB dBA L g = true ↔ dAB.toNat + dBA.toNat ≤ L * (g + 1) := decide_eq_true_iff

theorem not_plausible {dAB dBA : Byte} {L g : Nat} (large : L * (g + 1) < dAB.toNat + dBA.toNat) :
    plausible dAB dBA L g = false :=
  decide_eq_false large.not_ge

/-- A count that ran back by at most 90 axles shows a delta of at least 166 (R58). -/
theorem backward_delta (b : Byte) {k : Nat} (back : 1 ≤ k) (few : k ≤ 90) :
    166 ≤ (b - BitVec.ofNat 8 k - b).toNat := by
  bv_omega

/-- Settles O23: no limit of the image admits more than 90 axles, and a backward count shows at least 166. -/
theorem plausibilityTest : Obligations.PlausibilityTest := by
  unfold Obligations.PlausibilityTest
  refine ⟨plausible_iff, fun b other L g k _ axles gap back few => ?_⟩
  have limit : L * (g + 1) ≤ 15 * 6 := Nat.mul_le_mul axles (Nat.succ_le_succ gap)
  have delta := backward_delta b back few
  exact ⟨not_plausible (by omega), not_plausible (by omega)⟩

/-! ### One application (R65 to R70) -/

/-- A disturbance touches the state and the repeat count of a section alone (R88). -/
theorem disturbed_fields (c : Cause) (x : Section) :
    ∃ mode repeats, disturbed c x = { x with mode := mode, repeatCount := repeats } := by
  unfold disturbed
  split <;> exact ⟨_, _, rfl⟩

/-- The record after an application is the one that steps 1 to 3 give, but for its state and its repeat count. -/
theorem appliedSection_fields (x : Section) (ins outs : Nat) (passage : Bool) :
    ∃ mode repeats, appliedSection x ins outs passage =
      { countedSection x ins outs passage with mode := mode, repeatCount := repeats } := by
  unfold appliedSection
  dsimp only
  split
  · exact disturbed_fields _ _
  split
  · exact disturbed_fields _ _
  · exact ⟨_, _, rfl⟩

theorem clampNet_le (result : Int) : clampNet result ≤ 2047 := Nat.min_le_left _ _

theorem passageOf_iff (x : Section) (s : State) :
    passageOf x s = true ↔ ∃ b ∈ x.boundary, (s.point b.point).h1 = true ∨ (s.point b.point).h2 = true := by
  simp only [passageOf, List.any_eq_true, Bool.or_eq_true]

/-- Settles O26: the record of the section is the counted one but for its state and its repeat count. -/
theorem applicationCounts : Obligations.ApplicationCounts := by
  unfold Obligations.ApplicationCounts
  intro s n ins outs used x y result
  obtain ⟨mode, repeats, fields⟩ := appliedSection_fields x ins outs (passageOf x s)
  have counted : y = { countedSection x ins outs (passageOf x s) with mode := mode, repeatCount := repeats } :=
    (applySection_sec_same used ins outs).trans fields
  have net : y.net = min 2047 result.toNat := by rw [counted]; rfl
  rw [net, counted]
  exact ⟨by omega, by omega, by omega, rfl, rfl, passageOf_iff x s, rfl, rfl, rfl, rfl, rfl,
    fun m hm => applySection_sec_ne n ins outs s hm⟩

end Sys2Proof.Proofs
end

section
/-! Proofs: every step keeps the sections' counts in range, and the net 0 of the states that claim a vacant section
(R68, R69, R82, R85, R86, R88). -/

namespace Sys2Proof.Proofs

open Sys2Proof.Machine Sys2Proof.Safety Sys2Proof.Claims

/-! ### Changes of a record's labels alone -/

/-- `y` is `x` but for its open transaction number and its inhibits. -/
def Relabelled (x y : Section) : Prop :=
  ∃ number a b, y = { x with openTxn := number, inhibitA := a, inhibitB := b }

theorem Relabelled.refl (x : Section) : Relabelled x x := ⟨_, _, _, rfl⟩

theorem Relabelled.trans {x y z : Section} (h : Relabelled x y) (g : Relabelled y z) : Relabelled x z := by
  obtain ⟨_, _, _, rfl⟩ := h
  obtain ⟨number, a, b, rfl⟩ := g
  exact ⟨number, a, b, rfl⟩

theorem relabelled_withInhibit (x : Section) (p : PortId) (on : Bool) : Relabelled x (x.withInhibit p on) := by
  cases p <;> exact ⟨_, _, _, rfl⟩

/-- `t` has the points and the hand-off of `s`, and its sections but for their labels. -/
structure Relabels (s t : State) : Prop where
  points : t.points = s.points
  handOff : t.handOff = s.handOff
  sections : ∀ n, Relabelled (s.sec n) (t.sec n)

theorem Relabels.refl (s : State) : Relabels s s := ⟨rfl, rfl, fun _ => .refl _⟩

theorem Relabels.trans {s t u : State} (h : Relabels s t) (g : Relabels t u) : Relabels s u :=
  ⟨g.points.trans h.points, g.handOff.trans h.handOff, fun n => (h.sections n).trans (g.sections n)⟩

theorem relabels_setSec {n : SectionId} {x : Section} {s : State} (h : Relabelled (s.sec n) x) :
    Relabels s (s.setSec n x) := by
  refine ⟨rfl, rfl, fun m => ?_⟩
  by_cases hm : m = n
  · subst hm
    rwa [State.setSec_same]
  · rw [State.setSec_ne _ _ _ _ hm]
    exact .refl _

theorem relabels_cancelFor (reason : CancelReason) (q : Txn → Bool) (n : SectionId) (s : State) :
    Relabels s (cancelFor reason q n s) := by
  have only := cancelFor_only reason q n s
  refine ⟨only.points, only.handOff, fun m => ?_⟩
  obtain same | ⟨-, ended⟩ := cancelFor_sec reason q n s m
  · rw [same]
    exact .refl _
  · rw [ended]
    exact ⟨_, _, _, rfl⟩

theorem relabels_cancelForEach (reason : CancelReason) (q : Txn → Bool) (ns : List SectionId) (s : State) :
    Relabels s (ns.foldl (fun v n => cancelFor reason q n v) s) :=
  foldl_only (R := Relabels) .refl .trans _ (fun _ n => relabels_cancelFor reason q n _) ns s

theorem relabels_setInhibitFlag (p : PortId) (n : SectionId) (on : Bool) (s : State) :
    Relabels s (setInhibitFlag p n on s) := by
  have flagged := relabels_setSec (relabelled_withInhibit (s.sec n) p on)
  unfold setInhibitFlag
  dsimp only
  split
  · exact flagged.trans (relabels_cancelFor _ _ _ _)
  · exact flagged

theorem relabels_openTransaction (p : PortId) (n : SectionId) (kind : ResetKind) (k : SlotId) (s : State) :
    Relabels s (openTransaction p n kind k s) := by
  refine ⟨rfl, rfl, fun m => ?_⟩
  by_cases hm : m = n
  · subst hm
    rw [openTransaction_sec_same]
    exact ⟨_, _, _, rfl⟩
  · rw [openTransaction_sec_ne p n kind k s hm]
    exact .refl _

theorem relabels_endTxn (e : ResetEvent) (k : SlotId) (t : Txn) (s : State) : Relabels s (endTxn e k t s) := by
  have only := endTxn_only e k t s
  obtain ⟨-, -, -, same, others, -⟩ := endTxn_spec e k t s
  refine ⟨only.points, only.handOff, fun m => ?_⟩
  by_cases hm : m = t.sec
  · rw [hm, same]
    exact ⟨_, _, _, rfl⟩
  · rw [others m hm]
    exact .refl _

theorem relabels_addConfirmation (p : PortId) (k : SlotId) (t : Txn) (s : State) :
    Relabels s (addConfirmation p k t s) := ⟨rfl, rfl, fun _ => .refl _⟩

theorem relabels_activityStep (h : HandOff) (s : State) : Relabels s (activityStep h s) := by
  unfold activityStep
  split
  · exact relabels_cancelForEach _ _ _ _
  · exact .refl s

theorem completeTxn_sec_same (k : SlotId) (t : Txn) (s : State) :
    (completeTxn k t s).sec t.sec = completedSection t.kind (s.sec t.sec) := by
  unfold completeTxn
  dsimp only
  rw [(raiseReset_only _ _).sec, State.setSlot_sec, putSection_sec, append_sec]

/-! ### Sound records -/

/-- The counts of a section record in range, whatever its state claims. -/
structure CountsInRange (x : Section) : Prop where
  net_le : x.net ≤ 2047
  in_le : x.inTally ≤ 65535
  out_le : x.outTally ≤ 65535
  repeat_le : x.repeatCount ≤ 255

section
variable {x y : Section}

theorem countsInRange (h : SectionSound x) : CountsInRange x := ⟨h.net_le, h.in_le, h.out_le, h.repeat_le⟩

theorem sectionSound_relabelled (h : SectionSound x) (g : Relabelled x y) : SectionSound y := by
  obtain ⟨_, _, _, rfl⟩ := g
  exact ⟨h.net_le, h.in_le, h.out_le, h.repeat_le, h.prepared_net, h.clearing_vacant, h.clear_vacant⟩

/-- UNUSED and DISTURBED claim nothing of the net and the passage. -/
theorem sectionSound_of_unruled (h : CountsInRange x) (unruled : x.mode.name = .unused ∨ x.mode.name = .disturbed) :
    SectionSound x :=
  ⟨h.net_le, h.in_le, h.out_le, h.repeat_le, (fun name => by simp [name] at unruled),
    (fun name => by simp [name] at unruled), fun name => by simp [name] at unruled⟩

theorem sectionSound_disturbed (h : CountsInRange x) (c : Cause) : SectionSound (disturbed c x) := by
  unfold disturbed
  split
  · rename_i mode
    exact sectionSound_of_unruled h (.inl (congrArg SectionMode.name mode))
  · rename_i mode
    exact sectionSound_of_unruled ⟨h.net_le, h.in_le, h.out_le, satAdd_le _ _ _⟩ (.inr (congrArg SectionMode.name mode))
  all_goals exact sectionSound_of_unruled ⟨h.net_le, h.in_le, h.out_le, Nat.zero_le _⟩ (.inr rfl)

theorem sectionSound_abandoned (x : Section) : SectionSound x.abandoned :=
  sectionSound_of_unruled ⟨Nat.zero_le _, Nat.zero_le _, Nat.zero_le _, Nat.zero_le _⟩ (.inl rfl)

theorem sectionSound_start (img : List Byte) (n : SectionId) : SectionSound (startSection img n) := by
  refine sectionSound_of_unruled ⟨Nat.zero_le _, Nat.zero_le _, Nat.zero_le _, Nat.zero_le _⟩ ?_
  unfold startSection
  split
  · exact .inr rfl
  · exact .inl rfl

@[simp] theorem tick_name (m : SectionMode) : m.tick.name = m.name := by cases m <;> rfl

theorem sectionSound_ticked (h : SectionSound x) : SectionSound { x with mode := x.mode.tick } :=
  ⟨h.net_le, h.in_le, h.out_le, h.repeat_le, fun e => h.prepared_net ((tick_name _).symm.trans e),
    fun e => h.clearing_vacant ((tick_name _).symm.trans e), fun e => h.clear_vacant ((tick_name _).symm.trans e)⟩

/-- A section whose clearing time is up is as vacant in CLEAR as it was in CLEARING (R83). -/
theorem sectionSound_cleared (h : SectionSound x) (due : x.mode = .clearing 0) :
    SectionSound { x with mode := .clear } :=
  ⟨h.net_le, h.in_le, h.out_le, h.repeat_le, (fun e => nomatch e), (fun e => nomatch e),
    fun _ => h.clearing_vacant (by rw [due]; rfl)⟩

/-- A completion leaves every count 0 (R91). -/
theorem sectionSound_completed (x : Section) (kind : ResetKind) : SectionSound (completedSection kind x) := by
  cases kind with
  | preparatory =>
    exact ⟨Nat.zero_le _, Nat.zero_le _, Nat.zero_le _, Nat.zero_le _, fun _ => rfl, (fun e => nomatch e),
      (fun e => nomatch e)⟩
  | direct =>
    exact ⟨Nat.zero_le _, Nat.zero_le _, Nat.zero_le _, Nat.zero_le _, (fun e => nomatch e), (fun e => nomatch e),
      fun _ => ⟨rfl, rfl⟩⟩

/-! ### The state logic (R80 to R87) -/

/-- A section found vacant goes to CLEAR or CLEARING, not to PREPARED. -/
theorem vacated_ne_prepared (delay : Nat) : (vacated delay).name ≠ .prepared := by
  unfold vacated
  split <;> exact nofun

variable {m : SectionMode} {delay net ins : Nat} {passage : Bool}

/-- PREPARED is kept, not entered, and only while no axle is counted in (R86). -/
theorem ruleState_prepared (h : (ruleState m delay net passage ins).name = .prepared) :
    m.name = .prepared ∧ ins = 0 := by
  cases m with
  | unused | disturbed _ => exact nomatch h
  | clear | clearing _ =>
    simp only [ruleState] at h
    split at h <;> exact nomatch h
  | occupied | sweeping =>
    simp only [ruleState] at h
    split at h
    · exact absurd h (vacated_ne_prepared delay)
    · exact nomatch h
  | prepared =>
    simp only [ruleState] at h
    split_ifs at h with noneIn
    · exact ⟨rfl, noneIn⟩
    · exact absurd h (vacated_ne_prepared delay)
    · exact nomatch h

/-- The logic leaves a section in CLEARING or CLEAR only where it finds it vacant (R82, R85). -/
theorem ruleState_not_vacant (occupied : ¬ (net = 0 ∧ passage = false)) :
    (ruleState m delay net passage ins).name ≠ .clearing ∧ (ruleState m delay net passage ins).name ≠ .clear := by
  have notVacant : ¬ (net == 0 && !passage) = true := by simpa using occupied
  cases m with
  | prepared =>
    simp only [ruleState, notVacant]
    split <;> exact ⟨nofun, nofun⟩
  | unused | disturbed _ | clear | occupied | clearing _ | sweeping =>
    simp only [ruleState, notVacant]
    exact ⟨nofun, nofun⟩

theorem sectionSound_applied (h : SectionSound x) (ins outs : Nat) (passage : Bool) :
    SectionSound (appliedSection x ins outs passage) := by
  have counted : CountsInRange (countedSection x ins outs passage) :=
    ⟨clampNet_le _, satAdd_le _ _ _, satAdd_le _ _ _, h.repeat_le⟩
  unfold appliedSection
  dsimp only
  split
  · exact sectionSound_disturbed counted _
  split
  · exact sectionSound_disturbed counted _
  · refine ⟨counted.net_le, counted.in_le, counted.out_le, counted.repeat_le, fun name => ?_,
      fun name => by_contra fun occupied => (ruleState_not_vacant occupied).1 name,
      fun name => by_contra fun occupied => (ruleState_not_vacant occupied).2 name⟩
    obtain ⟨prepared, noneIn⟩ := ruleState_prepared name
    have net := h.prepared_net prepared
    simp only [countedSection, clampNet, resultOf, net, noneIn]
    omega

end

/-! ### Sound tables of sections -/

section
variable {s t : State}

theorem sectionsSound_of_sections (h : t.sections = s.sections) (hs : SectionsSound s) : SectionsSound t :=
  fun n => by simpa only [State.sec, h] using hs n

theorem sectionsSound_relabels (h : Relabels s t) (hs : SectionsSound s) : SectionsSound t :=
  fun n => sectionSound_relabelled (hs n) (h.sections n)

theorem sectionsSound_putSection (hs : SectionsSound s) {n : SectionId} {old : SectionMode} {x : Section}
    (hx : SectionSound x) : SectionsSound (putSection n old x s) := fun m => by
  by_cases hm : m = n
  · rw [hm, putSection_sec]
    exact hx
  · rw [putSection_sec_ne _ _ _ _ hm]
    exact hs m

theorem depart_sectionsSound (hs : SectionsSound s) (d : PointId) (c : PointCfg) (x : Point) (cause : Cause)
    (tel : Option Telegram) : SectionsSound (depart d c x cause tel s) := by
  rw [depart_eq]
  refine sectionsSound_relabels (relabels_cancelForEach _ _ _ _) (List.foldlRecOn _ _ ?_ fun u hu n _ => ?_)
  · exact sectionsSound_of_sections rfl hs
  · exact sectionsSound_putSection hu (sectionSound_disturbed (countsInRange (hu n)) cause)

theorem takeDelivery_sectionsSound (hs : SectionsSound s) (l : LineId) : SectionsSound (takeDelivery l s) := by
  unfold takeDelivery
  split
  · exact hs
  · rename_i del rest _
    have hu : SectionsSound (s.setLine l { s.line l with deliveries := rest }) := sectionsSound_of_sections rfl hs
    obtain same | ⟨c, x, cause, tel, departs⟩ :=
      supervise_keepsOrDeparts l del (s.setLine l { s.line l with deliveries := rest })
    · exact sectionsSound_of_sections same.sections hu
    · rw [departs]
      exact depart_sectionsSound hu _ _ _ _ _

theorem pointSilent_sectionsSound (hs : SectionsSound s) (d : PointId) : SectionsSound (pointSilent d s) := by
  unfold pointSilent
  dsimp only
  split
  · exact depart_sectionsSound hs _ _ _ _ _
  · exact sectionsSound_of_sections (changePoint_only _ _ _ _ _).sections hs
  · exact sectionsSound_of_sections (changePoint_only _ _ _ _ _).sections hs
  all_goals exact hs

theorem applySection_sectionsSound (hs : SectionsSound s) (n : SectionId) (ins outs : Nat) :
    SectionsSound (applySection n ins outs s) := by
  unfold applySection
  dsimp only
  split
  · exact hs
  · exact sectionsSound_putSection hs (sectionSound_applied (hs n) _ _ _)

theorem handOffStep_sectionsSound (hs : SectionsSound s) (h : HandOff) : SectionsSound (handOffStep h s) := by
  unfold handOffStep
  split
  · exact sectionsSound_of_sections (recordAxles_only h s).sections hs
  · refine sectionsSound_of_sections (s := applySideA h s) rfl ?_
    unfold applySideA
    split
    · exact applySection_sectionsSound hs _ _ _
    · exact hs
  · refine sectionsSound_of_sections (s := applySideB h s) rfl ?_
    unfold applySideB
    split
    · exact applySection_sectionsSound hs _ _ _
    · exact hs
  · exact sectionsSound_of_sections (s := activityStep h s) rfl (sectionsSound_relabels (relabels_activityStep h s) hs)

theorem handOffOnce_sectionsSound (hs : SectionsSound s) : SectionsSound (handOffOnce s) := by
  unfold handOffOnce
  split
  · exact handOffStep_sectionsSound hs _
  · exact hs

theorem completeTxn_sectionsSound (hs : SectionsSound s) (k : SlotId) (u : Txn) :
    SectionsSound (completeTxn k u s) := fun n => by
  by_cases hn : n = u.sec
  · rw [hn, completeTxn_sec_same]
    exact sectionSound_completed _ _
  · rw [completeTxn_sec_ne _ _ _ hn]
    exact hs n

theorem endLoad_sectionsSound (image : List Byte) (s : State) : SectionsSound (endLoad image s) := fun n => by
  by_cases good : imageFaultOf (presented image) = .none
  · rw [endLoad_of_good s good, append_sec, enterRunning_sec]
    exact sectionSound_start _ n
  · rw [endLoad_of_fault s good, append_sec, enterUnconfigured_sec]
    exact cold_sectionSound

end

@[simp] theorem restartSent_sec (s : State) (n : SectionId) : (restartSent s).sec n = (s.sec n).abandoned := by
  simp [restartSent, sendHead]

theorem blockMove_sectionsSound (s t : State) (h : BlockMove s t) (hs : SectionsSound s) : SectionsSound t := by
  cases h with
  | stay => exact hs
  | coldStart low =>
    intro n
    rw [coldStart_sec]
    exact sectionSound_abandoned _
  | endLoad image => exact endLoad_sectionsSound image s
  | restartSent =>
    intro n
    rw [restartSent_sec]
    exact sectionSound_abandoned _
  | tick =>
    intro n
    rw [tick_sec]
    split
    · exact sectionSound_ticked (hs n)
    · exact hs n
  | clearStats => exact sectionsSound_of_sections rfl hs
  | takeDelivery l => exact takeDelivery_sectionsSound hs l
  | pointSilent d => exact pointSilent_sectionsSound hs d
  | handOffOnce => exact handOffOnce_sectionsSound hs
  | handOffAll =>
    exact handOffOnce_sectionsSound <| handOffOnce_sectionsSound <| handOffOnce_sectionsSound <|
      handOffOnce_sectionsSound hs
  | cleared n due => exact sectionsSound_putSection hs (sectionSound_cleared (hs n) due)
  | inhibited p n on => exact sectionsSound_relabels (relabels_setInhibitFlag p n on s) hs
  | opened p n kind k => exact sectionsSound_relabels (relabels_openTransaction p n kind k s) hs
  | ended e k u => exact sectionsSound_relabels (relabels_endTxn e k u s) hs
  | confirmed p k u => exact sectionsSound_relabels (relabels_addConfirmation p k u s) hs
  | notReady p k u =>
    exact sectionsSound_relabels ((relabels_addConfirmation p k u s).trans (relabels_endTxn _ _ _ _)) hs
  | completed p k u =>
    exact completeTxn_sectionsSound (sectionsSound_relabels (relabels_addConfirmation p k u s) hs) k _

/-- Settles O57: a move relabels a section, disturbs it, rules on a count in range, or sets its counts to 0. -/
theorem sectionsKept : Obligations.SectionsKept := by
  unfold Obligations.SectionsKept
  exact step_keeps_of_moves (fun _ _ h => sectionsSound_of_sections h.sections) blockMove_sectionsSound

end Sys2Proof.Proofs
end

section
/-! Proofs: every step keeps the passage flags in step with the heads of the boundary points (R70). A step either keeps
the heads, the boundaries and the flags, or makes a hand-off whose applications are still to come, or computes a flag
from the heads. -/

namespace Sys2Proof.Proofs

open Sys2Proof.Machine Sys2Proof.Safety Sys2Proof.Claims

/-! ### Applications still to come (R61) -/

section
variable {s t : State} {h : HandOff} {n : SectionId}

theorem applicationPending_iff_of_early (made : s.handOff = some h) (early : h.stage = .waiting ∨ h.stage = .recorded) :
    applicationPending s n ↔ s.sideA h.point = some n ∨ s.sideB h.point = some n := by
  obtain stage | stage := early <;> simp [applicationPending, made, stage]

theorem applicationPending_iff_of_appliedA (made : s.handOff = some h) (stage : h.stage = .appliedA) :
    applicationPending s n ↔ s.sideB h.point = some n := by
  simp [applicationPending, made, stage]

theorem not_applicationPending_of_appliedB (made : s.handOff = some h) (stage : h.stage = .appliedB) :
    ¬ applicationPending s n := by
  simp [applicationPending, made, stage]

theorem not_applicationPending_of_idle (idle : s.handOff = none) : ¬ applicationPending s n := by
  simp [applicationPending, idle]

theorem applicationPending_congr (handOff : t.handOff = s.handOff) (cfg : ∀ d, (t.point d).cfg = (s.point d).cfg) :
    applicationPending t n ↔ applicationPending s n := by
  simp only [applicationPending, State.sideA, State.sideB, handOff, cfg]

end

/-! ### Steps that keep heads, boundaries and flags -/

/-- `y` is a context with the image entry and the heads of `x`. -/
structure SameHeads (x y : Point) : Prop where
  cfg : y.cfg = x.cfg
  h1 : y.h1 = x.h1
  h2 : y.h2 = x.h2

theorem SameHeads.refl (x : Point) : SameHeads x x := ⟨rfl, rfl, rfl⟩

theorem SameHeads.trans {x y z : Point} (h : SameHeads x y) (g : SameHeads y z) : SameHeads x z :=
  ⟨g.cfg.trans h.cfg, g.h1.trans h.h1, g.h2.trans h.h2⟩

/-- `y` is a record with the boundary and the passage flag of `x`, and is used only if `x` is. -/
structure SamePassage (x y : Section) : Prop where
  boundary : y.boundary = x.boundary
  passage : y.passage = x.passage
  used : y.mode ≠ .unused → x.mode ≠ .unused

theorem SamePassage.refl (x : Section) : SamePassage x x := ⟨rfl, rfl, id⟩

theorem SamePassage.trans {x y z : Section} (h : SamePassage x y) (g : SamePassage y z) : SamePassage x z :=
  ⟨g.boundary.trans h.boundary, g.passage.trans h.passage, h.used ∘ g.used⟩

theorem samePassage_disturbed (c : Cause) (x : Section) : SamePassage x (disturbed c x) := by
  unfold disturbed
  split
  · exact .refl x
  all_goals
    rename_i mode
    exact ⟨rfl, rfl, fun _ unused => nomatch mode.symm.trans unused⟩

theorem samePassage_ticked (x : Section) : SamePassage x { x with mode := x.mode.tick } :=
  ⟨rfl, rfl, fun used unused => used (by rw [unused]; rfl)⟩

/-- `t` has the hand-off of `s`, the heads of its contexts and the passage flags of its records. -/
structure SameTraffic (s t : State) : Prop where
  handOff : t.handOff = s.handOff
  points : ∀ d, SameHeads (s.point d) (t.point d)
  sections : ∀ n, SamePassage (s.sec n) (t.sec n)

namespace SameTraffic

variable {s t u : State}

theorem refl (s : State) : SameTraffic s s := ⟨rfl, fun _ => .refl _, fun _ => .refl _⟩

theorem trans (h : SameTraffic s t) (g : SameTraffic t u) : SameTraffic s u :=
  ⟨g.handOff.trans h.handOff, fun d => (h.points d).trans (g.points d), fun n => (h.sections n).trans (g.sections n)⟩

theorem ofBlocks (h : SameBlocks s t) : SameTraffic s t :=
  ⟨h.handOff, fun d => h.point d ▸ .refl _, fun n => h.sec n ▸ .refl _⟩

theorem ofJournal (h : OnlyJournal s t) : SameTraffic s t := ofBlocks (.ofJournal h)

theorem ofRelabels (h : Relabels s t) : SameTraffic s t := by
  refine ⟨h.handOff, fun d => ?_, fun n => ?_⟩
  · rw [State.point, State.point, h.points]
    exact .refl _
  · obtain ⟨_, _, _, same⟩ := h.sections n
    rw [same]
    exact ⟨rfl, rfl, id⟩

theorem setPoint {d : PointId} {y : Point} (h : SameHeads (s.point d) y) : SameTraffic s (s.setPoint d y) := by
  refine ⟨rfl, fun d' => ?_, fun _ => .refl _⟩
  by_cases hd : d' = d
  · rw [hd, State.setPoint_same]
    exact h
  · rw [State.setPoint_ne _ _ _ _ hd]
    exact .refl _

theorem changePoint {d : PointId} {y : Point} (h : SameHeads (s.point d) y) (old : PointName) (cause : Option Cause) :
    SameTraffic s (changePoint d old y cause s) := (setPoint h).trans (ofJournal (append_only _ _))

theorem putSection {n : SectionId} {y : Section} (h : SamePassage (s.sec n) y) (old : SectionMode) :
    SameTraffic s (putSection n old y s) := by
  have only := putSection_only n old y s
  refine ⟨only.handOff, fun d => only.point d ▸ .refl _, fun m => ?_⟩
  by_cases hm : m = n
  · rw [hm, putSection_sec]
    exact h
  · rw [putSection_sec_ne _ _ _ _ hm]
    exact .refl _

end SameTraffic

section
variable {s : State} {d : PointId} {x : Point}

theorem sameHeads_departed (h : SameHeads (s.point d) x) (cause : Cause) (tel : Option Telegram) :
    SameHeads (s.point d) (leftSync cause tel x) := by
  unfold leftSync
  dsimp only
  repeat' split
  all_goals exact ⟨h.cfg, h.h1, h.h2⟩

theorem depart_sameTraffic (h : SameHeads (s.point d) x) (c : PointCfg) (cause : Cause) (tel : Option Telegram) :
    SameTraffic s (depart d c x cause tel s) := by
  rw [depart_eq]
  have left : SameTraffic s (departing d (leftSync cause tel x) cause s) :=
    .changePoint (sameHeads_departed h cause tel) _ _
  have disturbs := foldl_only (R := SameTraffic) .refl .trans (fun v n => disturb cause n v)
    (fun _ _ => .putSection (samePassage_disturbed cause _) _) c.adjacent (departing d (leftSync cause tel x) cause s)
  exact left.trans (disturbs.trans (.ofRelabels (relabels_cancelForEach _ _ _ _)))

theorem tick_sameTraffic (s : State) : SameTraffic s (tick s) := by
  refine ⟨by rw [tick_only], fun d => ?_, fun n => ?_⟩
  · rw [tick_point]
    split <;> exact ⟨rfl, rfl, rfl⟩
  · rw [tick_sec]
    split
    · exact samePassage_ticked _
    · exact .refl _

theorem clearAllStats_sameTraffic (s : State) : SameTraffic s (clearAllStats s) := by
  refine ⟨rfl, fun d => ?_, fun _ => .refl _⟩
  rw [clearAllStats_point]
  exact ⟨rfl, rfl, rfl⟩

theorem cleared_sameTraffic {n : SectionId} (due : (s.sec n).mode = .clearing 0) :
    SameTraffic s (putSection n (s.sec n).mode { s.sec n with mode := .clear } s) := by
  refine .putSection ?_ _
  exact ⟨rfl, rfl, fun _ unused => nomatch due.symm.trans unused⟩

end

/-! ### Deliveries -/

/-- `t` is `s` but for the context of `d`, which keeps its image entry, and a hand-off of `d` that has not begun. -/
structure HandsOff (d : PointId) (s t : State) : Prop where
  made : ∃ h, t.handOff = some h ∧ h.point = d ∧ h.stage = .waiting
  cfg : (t.point d).cfg = (s.point d).cfg
  others : ∀ d', d' ≠ d → t.point d' = s.point d'
  sections : t.sections = s.sections

/-- What the handling of a telegram for `d` comes to: no head changes, or a hand-off is made (R60). -/
def KeepsOrHandsOff (d : PointId) (s t : State) : Prop := SameTraffic s t ∨ HandsOff d s t

section
variable {s : State} {d : PointId} {x : Point}

theorem enterSync_handsOff (h : SameHeads (s.point d) x) (cand t : Telegram) :
    HandsOff d s (enterSync d x cand t s) := by
  have points : ∀ d', (enterSync d x cand t s).point d' = (s.setPoint d (syncedPoint x cand t)).point d' := fun d' => by
    rw [State.point, enterSync_points]; rfl
  refine ⟨⟨_, rfl, rfl, rfl⟩, ?_, fun d' hd => ?_, (enterSync_sameTable d x cand t s).sections⟩
  · rw [points, State.setPoint_same]
    exact h.cfg
  · rw [points, State.setPoint_ne _ _ _ _ hd]

theorem acceptTelegram_handsOff (h : SameHeads (s.point d) x) (last t : Telegram) (dAB dBA : Byte) (gap : Nat) :
    HandsOff d s (acceptTelegram d x last t dAB dBA gap s) := by
  have points : ∀ d', (acceptTelegram d x last t dAB dBA gap s).point d' =
      (s.setPoint d (acceptedPoint x last t gap)).point d' := fun d' => by
    rw [State.point, acceptTelegram_points]; rfl
  refine ⟨⟨_, rfl, rfl, rfl⟩, ?_, fun d' hd => ?_, (acceptTelegram_sameTable d x last t dAB dBA gap s).sections⟩
  · rw [points, State.setPoint_same]
    exact h.cfg
  · rw [points, State.setPoint_ne _ _ _ _ hd]

theorem toFaulted_sameTraffic (h : SameHeads (s.point d) x) (t : Telegram) : SameTraffic s (toFaulted d x t s) := by
  refine .changePoint ?_ _ _
  exact ⟨h.cfg, h.h1, h.h2⟩

theorem toPending_sameTraffic (h : SameHeads (s.point d) x) (t : Telegram) : SameTraffic s (toPending d x t s) := by
  refine .changePoint ?_ _ _
  exact ⟨h.cfg, h.h1, h.h2⟩

theorem huntTelegram_sameTraffic (h : SameHeads (s.point d) x) (t : Telegram) :
    SameTraffic s (huntTelegram d x t s) := by
  unfold huntTelegram
  split
  · exact toFaulted_sameTraffic h t
  · exact toPending_sameTraffic h t

theorem faultedTelegram_sameTraffic (h : SameHeads (s.point d) x) (t : Telegram) :
    SameTraffic s (faultedTelegram d x t s) := by
  unfold faultedTelegram
  split
  · exact .setPoint ⟨h.cfg, h.h1, h.h2⟩
  · exact toPending_sameTraffic h t

theorem pendingTelegram_keepsOrHandsOff (h : SameHeads (s.point d) x) (cand t : Telegram) :
    KeepsOrHandsOff d s (pendingTelegram d x cand t s) := by
  unfold pendingTelegram
  split
  · exact .inl (toFaulted_sameTraffic h t)
  split
  · exact .inr (enterSync_handsOff h cand t)
  split
  · exact .inl (.setPoint ⟨h.cfg, h.h1, h.h2⟩)
  · exact .inl (.setPoint ⟨h.cfg, h.h1, h.h2⟩)

theorem judgeCounts_keepsOrHandsOff (h : SameHeads (s.point d) x) (c : PointCfg) (last : Telegram) (bAB bBA : Byte)
    (t : Telegram) (gap : Nat) : KeepsOrHandsOff d s (judgeCounts d c x last bAB bBA t gap s) := by
  unfold judgeCounts
  split
  · exact .inr (acceptTelegram_handsOff h last t _ _ gap)
  · exact .inl (depart_sameTraffic h c _ _)

theorem inSyncTelegram_keepsOrHandsOff (h : SameHeads (s.point d) x) (c : PointCfg) (last : Telegram)
    (older : Option Telegram) (bAB bBA : Byte) (e : BitVec 3) (t : Telegram) :
    KeepsOrHandsOff d s (inSyncTelegram d c x last older bAB bBA e t s) := by
  unfold inSyncTelegram
  split
  · split
    · exact .inl (.setPoint ⟨h.cfg, h.h1, h.h2⟩)
    · exact .inl (depart_sameTraffic h c _ _)
  split
  · exact .inl (depart_sameTraffic h c _ _)
  split
  · exact .inl (depart_sameTraffic h c _ _)
  split
  · refine judgeCounts_keepsOrHandsOff ?_ c last bAB bBA t _
    exact ⟨h.cfg, h.h1, h.h2⟩
  · exact judgeCounts_keepsOrHandsOff h c last bAB bBA t 0
  · exact .inl (depart_sameTraffic h c _ _)
  · exact .inl (depart_sameTraffic h c _ _)

theorem supervise_keepsOrHandsOff (l : LineId) (del : Delivery) (s : State) :
    KeepsOrHandsOff del.point s (supervise l del s) := by
  unfold supervise
  split
  · exact .inl (.refl s)
  rename_i c _
  have heard : SameHeads (s.point del.point) ((s.point del.point).heard c l) := ⟨rfl, rfl, rfl⟩
  dsimp only
  split
  · exact .inl (.refl s)
  · exact .inl (huntTelegram_sameTraffic heard _)
  · exact .inl (huntTelegram_sameTraffic heard _)
  · exact pendingTelegram_keepsOrHandsOff heard _ _
  · exact inSyncTelegram_keepsOrHandsOff heard _ _ _ _ _ _ _
  · exact .inl (faultedTelegram_sameTraffic heard _)

theorem pointSilent_sameTraffic (d : PointId) (s : State) : SameTraffic s (pointSilent d s) := by
  have lost : SameHeads (s.point d) { s.point d with mode := .lost, silence := none } := ⟨rfl, rfl, rfl⟩
  unfold pointSilent
  dsimp only
  split
  · exact depart_sameTraffic (.refl _) _ _ _
  · exact .changePoint lost _ _
  · exact .changePoint lost _ _
  all_goals exact .refl s

end

/-! ### Sound flags -/

section
variable {s t : State}

theorem passageOf_congr {x y : Section} (boundary : y.boundary = x.boundary)
    (heads : ∀ b ∈ x.boundary, (t.point b.point).h1 = (s.point b.point).h1 ∧ (t.point b.point).h2 = (s.point b.point).h2) :
    passageOf y t = passageOf x s := by
  rw [Bool.eq_iff_iff, passageOf_iff, passageOf_iff, boundary]
  refine exists_congr fun b => and_congr_right fun hb => ?_
  rw [(heads b hb).1, (heads b hb).2]

theorem planSound_of_kept (hs : PlanSound s) (cfg : ∀ d, (t.point d).cfg = (s.point d).cfg)
    (boundary : ∀ n, (t.sec n).boundary = (s.sec n).boundary) : PlanSound t := fun n b hb => by
  rw [boundary] at hb
  rw [cfg]
  exact hs n b hb

/-- The flags stay sound where the heads and the boundaries stay, and each flag is computed from the heads or kept,
unless the application that would have put it right has been made. -/
theorem passageSound_of_heads (hs : PassageSound s) (heads : ∀ d, SameHeads (s.point d) (t.point d))
    (boundary : ∀ n, (t.sec n).boundary = (s.sec n).boundary)
    (flag : ∀ n, (t.sec n).mode ≠ .unused → (t.sec n).passage = passageOf (s.sec n) s ∨
      (s.sec n).mode ≠ .unused ∧ (t.sec n).passage = (s.sec n).passage ∧
        (applicationPending s n → applicationPending t n)) : PassageSound t := by
  refine ⟨planSound_of_kept hs.plan (fun d => (heads d).cfg) boundary, fun n used => ?_⟩
  have fromHeads : passageOf (t.sec n) t = passageOf (s.sec n) s :=
    passageOf_congr (boundary n) fun b _ => ⟨(heads b.point).h1, (heads b.point).h2⟩
  rw [fromHeads]
  obtain computed | ⟨usedBefore, kept, pending⟩ := flag n used
  · exact .inl computed
  · exact (hs.passage n usedBefore).imp kept.trans pending

theorem passageSound_of_sameTraffic (h : SameTraffic s t) (hs : PassageSound s) : PassageSound t :=
  passageSound_of_heads hs h.points (fun n => (h.sections n).boundary) fun n used =>
    .inr ⟨(h.sections n).used used, (h.sections n).passage,
      (applicationPending_congr h.handOff fun d => (h.points d).cfg).mpr⟩

/-- A telegram that changes the heads makes a hand-off that applies to every section with its point (R60, R63). -/
theorem passageSound_of_handsOff {d : PointId} (h : HandsOff d s t) (idle : s.handOff = none) (hs : PassageSound s) :
    PassageSound t := by
  have sec : ∀ n, t.sec n = s.sec n := fun n => by simp only [State.sec, h.sections]
  have cfg : ∀ d', (t.point d').cfg = (s.point d').cfg := fun d' => by
    by_cases hd : d' = d
    · rw [hd, h.cfg]
    · rw [h.others d' hd]
  refine ⟨planSound_of_kept hs.plan cfg fun n => by rw [sec], fun n used => ?_⟩
  rw [sec] at used ⊢
  by_cases adjoins : ∃ b ∈ (s.sec n).boundary, b.point = d
  · obtain ⟨b, hb, rfl⟩ := adjoins
    obtain ⟨c, used, adjacent⟩ := hs.plan n b hb
    obtain ⟨hand, made, point, stage⟩ := h.made
    rw [← cfg] at used
    refine .inr ((applicationPending_iff_of_early made (.inl stage)).mpr ?_)
    simpa [State.sideA, State.sideB, point, used, PointCfg.adjacent] using adjacent
  · have same : passageOf (s.sec n) t = passageOf (s.sec n) s := passageOf_congr rfl fun b hb => by
      rw [h.others b.point fun e => adjoins ⟨b, hb, e⟩]
      exact ⟨rfl, rfl⟩
    rw [same]
    exact .inl ((hs.passage n used).resolve_right (not_applicationPending_of_idle idle))

theorem takeDelivery_passageSound (hs : PassageSound s) (idle : s.handOff = none) (l : LineId) :
    PassageSound (takeDelivery l s) := by
  unfold takeDelivery
  split
  · exact hs
  · rename_i del rest _
    have taken : PassageSound (s.setLine l { s.line l with deliveries := rest }) :=
      passageSound_of_sameTraffic (.ofBlocks (.ofLines (setLine_only _ _ _))) hs
    obtain same | made := supervise_keepsOrHandsOff l del (s.setLine l { s.line l with deliveries := rest })
    · exact passageSound_of_sameTraffic same taken
    · exact passageSound_of_handsOff made idle taken

/-! ### Hand-offs (R61) -/


/-- `t` is `s` after an application to the section of a side, or to none: its flag is computed from the heads, the other
records stay. -/
structure Applied (side : Option SectionId) (s t : State) : Prop where
  points : t.points = s.points
  boundary : ∀ n, (t.sec n).boundary = (s.sec n).boundary
  flag : ∀ n, (t.sec n).mode ≠ .unused →
    (t.sec n).passage = passageOf (s.sec n) s ∨ side ≠ some n ∧ t.sec n = s.sec n

theorem applied_none (s : State) : Applied none s s := ⟨rfl, fun _ => rfl, fun _ _ => .inr ⟨nofun, rfl⟩⟩

theorem applied_applySection (n : SectionId) (ins outs : Nat) (s : State) :
    Applied (some n) s (applySection n ins outs s) := by
  by_cases used : (s.sec n).mode = .unused
  · have same : applySection n ins outs s = s := if_pos used
    rw [same]
    refine ⟨rfl, fun _ => rfl, fun m usedM => .inr ⟨?_, rfl⟩⟩
    rintro ⟨⟩
    exact usedM used
  · obtain ⟨mode, repeats, fields⟩ := appliedSection_fields (s.sec n) ins outs (passageOf (s.sec n) s)
    have sec := (applySection_sec_same used ins outs).trans fields
    refine ⟨(applySection_only n ins outs s).points, fun m => ?_, fun m _ => ?_⟩ <;> by_cases hm : m = n
    · rw [hm, sec]
      rfl
    · rw [applySection_sec_ne _ _ _ _ hm]
    · rw [hm, sec]
      exact .inl rfl
    · exact .inr ⟨fun e => hm (Option.some.inj e).symm, applySection_sec_ne _ _ _ _ hm⟩

theorem applySideA_applied (h : HandOff) (s : State) : Applied (s.sideA h.point) s (applySideA h s) := by
  unfold applySideA
  split
  · rename_i n side
    rw [side]
    exact applied_applySection n _ _ s
  · rename_i side
    rw [side]
    exact applied_none s

theorem applySideB_applied (h : HandOff) (s : State) : Applied (s.sideB h.point) s (applySideB h s) := by
  unfold applySideB
  split
  · rename_i n side
    rw [side]
    exact applied_applySection n _ _ s
  · rename_i side
    rw [side]
    exact applied_none s

theorem passageSound_of_applied {side : Option SectionId} (h : Applied side s t) (hs : PassageSound s)
    (pending : ∀ n, side ≠ some n → applicationPending s n → applicationPending t n) : PassageSound t := by
  refine passageSound_of_heads hs (fun d => ?_) h.boundary fun n used => ?_
  · rw [State.point, State.point, h.points]
    exact .refl _
  · refine (h.flag n used).imp_right fun ⟨other, same⟩ => ?_
    rw [same] at used ⊢
    exact ⟨used, rfl, pending n other⟩

/-- The next stage leaves the flags sound where it leaves every application to come that was to come. -/
theorem passageSound_setStage (hs : PassageSound s) {h : HandOff} {stage : Option HandOffStage}
    (pending : ∀ n, applicationPending s n → applicationPending (setStage h stage s) n) :
    PassageSound (setStage h stage s) :=
  passageSound_of_applied (s := s) (side := none) ⟨rfl, fun _ => rfl, fun _ _ => .inr ⟨nofun, rfl⟩⟩ hs fun n _ => pending n

theorem handOffStep_passageSound {h : HandOff} (made : s.handOff = some h) (hs : PassageSound s) :
    PassageSound (handOffStep h s) := by
  unfold handOffStep
  split
  case h_1 stage =>
    have only := recordAxles_only h s
    refine passageSound_setStage (passageSound_of_sameTraffic (.ofJournal only) hs) fun n pending => ?_
    rw [applicationPending_iff_of_early (only.handOff.trans made) (.inl stage)] at pending
    exact (applicationPending_iff_of_early (h := atStage h .recorded) rfl (.inr rfl)).mpr pending
  case h_2 stage =>
    have applied := applySideA_applied h s
    refine passageSound_of_applied (side := s.sideA h.point) ⟨applied.points, applied.boundary, applied.flag⟩ hs
      fun n other pending => ?_
    rw [applicationPending_iff_of_early made (.inr stage)] at pending
    refine (applicationPending_iff_of_appliedA (h := atStage h .appliedA) rfl rfl).mpr ?_
    exact (sideB_of_points applied.points h.point).trans (pending.resolve_left other)
  case h_3 stage =>
    have applied := applySideB_applied h s
    refine passageSound_of_applied (side := s.sideB h.point) ⟨applied.points, applied.boundary, applied.flag⟩ hs
      fun n other pending => ?_
    rw [applicationPending_iff_of_appliedA made stage] at pending
    exact absurd pending other
  case h_4 stage =>
    have relabels := relabels_activityStep h s
    refine passageSound_setStage (passageSound_of_sameTraffic (.ofRelabels relabels) hs) fun n pending => ?_
    exact absurd pending (not_applicationPending_of_appliedB (relabels.handOff.trans made) stage)

theorem handOffOnce_passageSound (hs : PassageSound s) : PassageSound (handOffOnce s) := by
  unfold handOffOnce
  split
  · rename_i h made
    exact handOffStep_passageSound made hs
  · exact hs

/-! ### Completions, starts and loads -/

/-- A DIRECT completion has found every head free, and a PREPARATORY one keeps the flag (R91, R109). -/
theorem completeTxn_passageSound (hs : PassageSound s) (k : SlotId) {u : Txn} (checked : completionCheck u s = true) :
    PassageSound (completeTxn k u s) := by
  have only := completeTxn_only k u s
  simp only [completionCheck, Bool.and_eq_true, Bool.or_eq_true, bne_iff_ne] at checked
  obtain ⟨⟨⟨⟨disturbed, -⟩, -⟩, -⟩, direct⟩ := checked
  obtain ⟨cause, mode⟩ := (isDisturbed_iff _).mp disturbed
  have pending : ∀ n, applicationPending s n → applicationPending (completeTxn k u s) n := fun n =>
    (applicationPending_congr only.handOff fun d => congrArg Point.cfg (only.point d)).mpr
  refine passageSound_of_heads hs (fun d => only.point d ▸ .refl _) (fun n => ?_) fun n used => ?_ <;>
    by_cases hn : n = u.sec
  · rw [hn, completeTxn_sec_same]
    rfl
  · rw [completeTxn_sec_ne _ _ _ hn]
  · subst hn
    rw [completeTxn_sec_same]
    cases kind : u.kind with
    | preparatory => exact .inr ⟨(fun unused => nomatch mode.symm.trans unused), rfl, pending _⟩
    | direct =>
      have free := (direct.resolve_left (not_not.mpr kind)).1
      exact .inl (by simpa [allHeadsFree, completedSection] using free)
  · rw [completeTxn_sec_ne _ _ _ hn] at used ⊢
    exact .inr ⟨used, rfl, pending n⟩

theorem passageSound_of_bare (bare : ∀ n, (t.sec n).boundary = [] ∧ (t.sec n).mode = .unused) : PassageSound t where
  plan n b hb := by
    rw [(bare n).1] at hb
    exact nomatch hb
  passage n used := absurd (bare n).2 used

/-- A load gives a section the boundary of the plan, and every head is free until its point is heard (R3, R14). -/
theorem enterRunning_passageSound (img : List Byte) (s : State) : PassageSound (enterRunning img s) := by
  refine ⟨fun n b hb => ?_, fun n _ => .inl ?_⟩
  · rw [enterRunning_sec] at hb
    by_cases used : UsedSection img n
    · rw [startSection_of_used used] at hb
      obtain ⟨usedPoint, side⟩ := (mem_boundaryOf_iff img n b).mp hb
      refine ⟨pointCfgOf img b.point, by rw [enterRunning_point, startPoint_of_used usedPoint], ?_⟩
      simpa [PointCfg.adjacent] using (sideNaming_isSome_iff _ n).mp ⟨_, side⟩
    · rw [startSection_of_unused used] at hb
      exact nomatch hb
  · have free : ¬ passageOf ((enterRunning img s).sec n) (enterRunning img s) = true := by
      rw [passageOf_iff]
      rintro ⟨b, -, damped⟩
      rw [enterRunning_point] at damped
      exact damped.elim nofun nofun
    rw [Bool.not_eq_true] at free
    rw [free, enterRunning_sec]
    rfl

theorem endLoad_passageSound (image : List Byte) (s : State) : PassageSound (endLoad image s) := by
  by_cases good : imageFaultOf (presented image) = .none
  · rw [endLoad_of_good s good]
    exact passageSound_of_sameTraffic (.ofJournal (append_only _ _)) (enterRunning_passageSound _ _)
  · refine passageSound_of_bare fun n => ?_
    rw [endLoad_of_fault s good, append_sec, enterUnconfigured_sec]
    exact ⟨rfl, rfl⟩

end

theorem blockMove_passageSound (s t : State) (h : BlockMove s t) (hs : PassageSound s) : PassageSound t := by
  cases h with
  | stay => exact hs
  | coldStart low =>
    refine passageSound_of_bare fun n => ?_
    rw [coldStart_sec]
    exact ⟨rfl, rfl⟩
  | endLoad image => exact endLoad_passageSound image s
  | restartSent =>
    refine passageSound_of_bare fun n => ?_
    rw [restartSent_sec]
    exact ⟨rfl, rfl⟩
  | tick => exact passageSound_of_sameTraffic (tick_sameTraffic s) hs
  | clearStats => exact passageSound_of_sameTraffic (clearAllStats_sameTraffic s) hs
  | takeDelivery l idle => exact takeDelivery_passageSound hs idle l
  | pointSilent d => exact passageSound_of_sameTraffic (pointSilent_sameTraffic d s) hs
  | handOffOnce => exact handOffOnce_passageSound hs
  | handOffAll =>
    exact handOffOnce_passageSound <| handOffOnce_passageSound <| handOffOnce_passageSound <|
      handOffOnce_passageSound hs
  | cleared n due => exact passageSound_of_sameTraffic (cleared_sameTraffic due) hs
  | inhibited p n on => exact passageSound_of_sameTraffic (.ofRelabels (relabels_setInhibitFlag p n on s)) hs
  | opened p n kind k => exact passageSound_of_sameTraffic (.ofRelabels (relabels_openTransaction p n kind k s)) hs
  | ended e k u => exact passageSound_of_sameTraffic (.ofRelabels (relabels_endTxn e k u s)) hs
  | confirmed p k u => exact passageSound_of_sameTraffic (.ofRelabels (relabels_addConfirmation p k u s)) hs
  | notReady p k u =>
    exact passageSound_of_sameTraffic
      (.ofRelabels ((relabels_addConfirmation p k u s).trans (relabels_endTxn _ _ _ _))) hs
  | completed p k u _ checked =>
    exact completeTxn_passageSound
      (passageSound_of_sameTraffic (.ofRelabels (relabels_addConfirmation p k u s)) hs) k checked

/-- Settles O59: only a hand-off's telegram changes heads, and it leaves to come the applications that set the flags. -/
theorem passageKept : Obligations.PassageKept := by
  unfold Obligations.PassageKept
  exact step_keeps_of_moves (fun _ _ h => passageSound_of_sameTraffic (.ofBlocks h)) blockMove_passageSound

end Sys2Proof.Proofs
end

section
/-! Proofs: the command HAND_OFF: its four steps, one by one and as a whole (R61, R63, R64, R74, R75). -/

namespace Sys2Proof.Proofs

open Sys2Proof.Machine Sys2Proof.Safety Sys2Proof.Claims

/-! ### Operations that do not read the attention lines -/

/-- `s` with other levels on its attention lines. -/
def withAttention (a : Vector Bool 4) (s : State) : State := { s with attention := a }

/-- `f` neither reads nor decides the attention lines. -/
def Blind (f : State → State) : Prop := ∀ a s, f (withAttention a s) = withAttention a (f s)

namespace Blind

variable {f g : State → State}

theorem skip : Blind fun s => s := fun _ _ => rfl

theorem comp (hg : Blind g) (hf : Blind f) : Blind fun s => g (f s) := fun a s =>
  (congrArg g (hf a s)).trans (hg a (f s))

theorem foldl {α : Type} {f : State → α → State} (hf : ∀ x, Blind fun s => f s x) (xs : List α) :
    Blind fun s => xs.foldl f s := by
  induction xs with
  | nil => exact skip
  | cons x xs ih => exact ih.comp (hf x)

/-- The lines need not be decided before an operation that does not read them, when they are decided after it. -/
theorem settle_settle (hf : Blind f) (s : State) : settle (f (settle s)) = settle (f s) :=
  calc settle (f (settle s))
    _ = settle (withAttention (settle s).attention (f s)) := congrArg settle (hf (settle s).attention s)
    _ = settle (f s) := rfl

end Blind

theorem setStage_blind (h : HandOff) (stage : Option HandOffStage) : Blind (setStage h stage) := fun _ _ => rfl

theorem putSection_blind (n : SectionId) (old : SectionMode) (x : Section) : Blind (putSection n old x) := fun a s => by
  unfold putSection
  dsimp only
  split <;> rfl

theorem applySection_blind (n : SectionId) (ins outs : Nat) : Blind (applySection n ins outs) := fun a s => by
  have sec : (withAttention a s).sec n = s.sec n := rfl
  have heads : passageOf (s.sec n) (withAttention a s) = passageOf (s.sec n) s := rfl
  unfold applySection
  dsimp only
  rw [sec, heads]
  split
  · rfl
  · exact putSection_blind _ _ _ a s

theorem raiseReset_blind (proposer : PortId) : Blind (raiseReset proposer) := fun a s => by
  unfold raiseReset
  dsimp only
  split <;> rfl

theorem endTxn_blind (e : ResetEvent) (k : SlotId) (t : Txn) : Blind (endTxn e k t) :=
  (raiseReset_blind t.proposer).comp (f := fun s => setOpenTxn t.sec none ((append (resetRecord t e) s).setSlot k none))
    fun _ _ => rfl

theorem cancelFor_blind (reason : CancelReason) (q : Txn → Bool) (n : SectionId) : Blind (cancelFor reason q n) :=
  fun a s => by
    have found : findTxn (fun t => t.sec == n && q t) (withAttention a s) = findTxn (fun t => t.sec == n && q t) s :=
      rfl
    unfold cancelFor
    rw [found]
    split
    · exact endTxn_blind _ _ _ a s
    · rfl

theorem recordAxles_blind (h : HandOff) : Blind (recordAxles h) := fun a s => by
  unfold recordAxles
  split <;> rfl

theorem applySideA_blind (h : HandOff) : Blind (applySideA h) := fun a s => by
  have side : (withAttention a s).sideA h.point = s.sideA h.point := rfl
  unfold applySideA
  rw [side]
  split
  · exact applySection_blind _ _ _ a s
  · rfl

theorem applySideB_blind (h : HandOff) : Blind (applySideB h) := fun a s => by
  have side : (withAttention a s).sideB h.point = s.sideB h.point := rfl
  unfold applySideB
  rw [side]
  split
  · exact applySection_blind _ _ _ a s
  · rfl

theorem activityStep_blind (h : HandOff) : Blind (activityStep h) := fun a s => by
  have sideA : (withAttention a s).sideA h.point = s.sideA h.point := rfl
  have sideB : (withAttention a s).sideB h.point = s.sideB h.point := rfl
  unfold activityStep
  rw [sideA, sideB]
  split
  · exact Blind.foldl (fun n => cancelFor_blind .activity _ n) _ a s
  · rfl

theorem handOffStep_blind (h : HandOff) : Blind (handOffStep h) := fun a s => by
  unfold handOffStep
  split
  · exact (setStage_blind h _).comp (recordAxles_blind h) a s
  · exact (setStage_blind h _).comp (applySideA_blind h) a s
  · exact (setStage_blind h _).comp (applySideB_blind h) a s
  · exact (setStage_blind h _).comp (activityStep_blind h) a s

theorem handOffOnce_blind : Blind handOffOnce := fun a s => by
  have made : (withAttention a s).handOff = s.handOff := rfl
  unfold handOffOnce
  rw [made]
  split
  · exact handOffStep_blind _ a s
  · rfl

/-! ### The steps and the command -/

section
variable {s : State} {h : HandOff}

theorem active_iff (h : HandOff) :
    h.active = true ↔ 0 < h.dAB.toNat + h.dBA.toNat ∨ (h.h1Before = false ∧ h.h1After = true) ∨
      (h.h2Before = false ∧ h.h2After = true) := by
  simp [HandOff.active, HandOff.counts, or_assoc]

theorem handOffOnce_eq (made : s.handOff = some h) : handOffOnce s = handOffStep h s := by
  simp only [handOffOnce, made]

theorem handOffStep_waiting (stage : h.stage = .waiting) :
    handOffStep h s = setStage h (some .recorded) (recordAxles h s) := by
  simp only [handOffStep, stage]

theorem handOffStep_recorded (stage : h.stage = .recorded) :
    handOffStep h s = setStage h (some .appliedA) (applySideA h s) := by
  simp only [handOffStep, stage]

theorem handOffStep_appliedA (stage : h.stage = .appliedA) :
    handOffStep h s = setStage h (some .appliedB) (applySideB h s) := by
  simp only [handOffStep, stage]

theorem handOffStep_appliedB (stage : h.stage = .appliedB) :
    handOffStep h s = setStage h none (activityStep h s) := by
  simp only [handOffStep, stage]

/-- HAND_OFF is taken while a hand-off is under way, and decides the attention lines after its effect. -/
theorem exec_handOff (service : InService s) (made : s.handOff = some h) :
    exec (.handOff .oneStep) s = .next (settle (handOffOnce s)) ∧
      exec (.handOff .whole) s = .next (settle (handOffAll s)) := by
  have can : (s.inService && s.handOff.isSome) = true := by simp [(inService_iff s).mpr service, made]
  exact ⟨congrArg (event · handOffOnce s) can, congrArg (event · handOffAll s) can⟩

/-- A step that is not the last leaves the part in service with its hand-off at the next stage. -/
theorem exec_oneStep (service : InService s) (made : s.handOff = some h) {stage : HandOffStage}
    (next : (handOffOnce s).handOff = some (atStage h stage)) :
    exec (.handOff .oneStep) s = .next (settle (handOffOnce s)) ∧ InService (settle (handOffOnce s)) ∧
      (settle (handOffOnce s)).handOff = some (atStage h stage) := by
  have only := handOffOnce_only s
  obtain ⟨high, running⟩ := service
  exact ⟨(exec_handOff ⟨high, running⟩ made).1, ⟨only.resetLow.trans high, only.part.trans running⟩, next⟩

theorem handOffAll_settled (s : State) :
    settle (handOffOnce (settle (handOffOnce (settle (handOffOnce (settle (handOffOnce s))))))) =
      settle (handOffAll s) := by
  rw [handOffOnce_blind.settle_settle, (handOffOnce_blind.comp handOffOnce_blind).settle_settle,
    (handOffOnce_blind.comp (handOffOnce_blind.comp handOffOnce_blind)).settle_settle]
  rfl

theorem wholeHandOff (service : InService s) (made : s.handOff = some h) (waiting : h.stage = .waiting) :
    ∃ t1 t2 t3 t4, exec (.handOff .oneStep) s = .next t1 ∧ exec (.handOff .oneStep) t1 = .next t2 ∧
      exec (.handOff .oneStep) t2 = .next t3 ∧ exec (.handOff .oneStep) t3 = .next t4 ∧ t4.handOff = none ∧
      exec (.handOff .whole) s = .next t4 := by
  obtain ⟨exec1, service1, made1⟩ := exec_oneStep (stage := .recorded) service made
    (by rw [handOffOnce_eq made, handOffStep_waiting waiting]; rfl)
  obtain ⟨exec2, service2, made2⟩ := exec_oneStep (stage := .appliedA) service1 made1
    (by rw [handOffOnce_eq made1, handOffStep_recorded rfl]; rfl)
  obtain ⟨exec3, service3, made3⟩ := exec_oneStep (stage := .appliedB) service2 made2
    (by rw [handOffOnce_eq made2, handOffStep_appliedA rfl]; rfl)
  refine ⟨_, _, _, _, exec1, exec2, exec3, (exec_handOff service3 made3).1, ?_, ?_⟩
  · rw [handOffOnce_eq made3, handOffStep_appliedB rfl]
    rfl
  · rw [handOffAll_settled]
    exact (exec_handOff service made).2

/-- No delivery is taken before the hand-off has ended (R61). -/
theorem telegramDelivery_waits (made : s.handOff = some h) (l : LineId) : exec (.telegramDelivery l) s = .next s :=
  event_of_not (by simp [made])

end

/-- Settles O24: one command is the step of the hand-off's stage, and four such commands leave what the whole leaves. -/
theorem handOffSteps : Obligations.HandOffSteps := by
  unfold Obligations.HandOffSteps
  intro s h service made counts active sideA sideB next
  have counted : h.counts = true ↔ counts := decide_eq_true_iff
  have settled : ∀ {u}, handOffStep h s = u → Settled (settle (handOffOnce s)) u := fun {u} step => by
    rw [handOffOnce_eq made, step]
    exact settled_settle u
  refine ⟨⟨_, (exec_handOff service made).1, ?record, ?noRecord, ?applyA, ?noSideA, ?applyB, ?noSideB, ?report, ?quiet⟩,
    wholeHandOff service made, telegramDelivery_waits made⟩
  case record =>
    intro stage axles
    refine settled ?_
    simp only [handOffStep_waiting stage, recordAxles, counted.mpr axles, if_true]
    rfl
  case noRecord =>
    intro stage axles
    refine settled ?_
    simp only [handOffStep_waiting stage, recordAxles, counted.not.mpr axles]
    rfl
  case applyA =>
    intro n stage (side : s.sideA h.point = some n)
    refine settled ?_
    simp only [handOffStep_recorded stage, applySideA, side]
    rfl
  case noSideA =>
    intro stage (side : s.sideA h.point = none)
    refine settled ?_
    simp only [handOffStep_recorded stage, applySideA, side]
    rfl
  case applyB =>
    intro n stage (side : s.sideB h.point = some n)
    refine settled ?_
    simp only [handOffStep_appliedA stage, applySideB, side]
    rfl
  case noSideB =>
    intro stage (side : s.sideB h.point = none)
    refine settled ?_
    simp only [handOffStep_appliedA stage, applySideB, side]
    rfl
  case report =>
    intro stage traffic
    refine settled ?_
    simp only [handOffStep_appliedB stage, activityStep, (active_iff h).mpr traffic, if_true]
    rfl
  case quiet =>
    intro stage traffic
    refine settled ?_
    simp only [handOffStep_appliedB stage, activityStep, (active_iff h).not.mpr traffic]
    rfl

end Sys2Proof.Proofs
end

section
/-! Proofs: every step keeps R90, a section not DISTURBED has every boundary point IN_SYNC. A step lets the state logic
rule on no section on which it did not rule before, except at a completion, which has checked the boundary; and a point
leaves IN_SYNC only by a departure, which disturbs every section beside it. -/

namespace Sys2Proof.Proofs

open Sys2Proof.Machine Sys2Proof.Safety Sys2Proof.Claims

/-! ### Sections on which the state logic rules (R80) -/

/-- The state logic rules on no section of `t` on which it does not rule in `s`. -/
def RulesNoMore (s t : State) : Prop := ∀ n, (t.sec n).mode.ruled = true → (s.sec n).mode.ruled = true

section
variable {s t u : State}

theorem RulesNoMore.refl (s : State) : RulesNoMore s s := fun _ => id

theorem RulesNoMore.trans (h : RulesNoMore s t) (g : RulesNoMore t u) : RulesNoMore s u := fun n => h n ∘ g n

theorem rulesNoMore_of_sections (h : t.sections = s.sections) : RulesNoMore s t := fun n => by
  simp only [State.sec, h]
  exact id

theorem rulesNoMore_of_relabels (h : Relabels s t) : RulesNoMore s t := fun n ruled => by
  obtain ⟨_, _, _, same⟩ := h.sections n
  rwa [same] at ruled

theorem rulesNoMore_of_unruled (h : ∀ n, (t.sec n).mode.ruled = false) : RulesNoMore s t := fun n ruled =>
  absurd ruled (by simp [h n])

theorem rulesNoMore_putSection {n : SectionId} {x : Section} (h : x.mode.ruled = true → (s.sec n).mode.ruled = true)
    (old : SectionMode) : RulesNoMore s (putSection n old x s) := fun m => by
  by_cases hm : m = n
  · rw [hm, putSection_sec]
    exact h
  · rw [putSection_sec_ne _ _ _ _ hm]
    exact id

/-- A disturbed section is DISTURBED, or UNUSED as it was (R88). -/
theorem ruled_disturbed (c : Cause) (x : Section) : (disturbed c x).mode.ruled = false := by
  unfold disturbed
  split
  · rename_i mode
    rw [mode]
    rfl
  · rename_i mode
    exact congrArg SectionMode.ruled mode
  all_goals rfl

theorem ruled_ruleState (m : SectionMode) (delay net : Nat) (passage : Bool) (ins : Nat)
    (ruled : (ruleState m delay net passage ins).ruled = true) : m.ruled = true := by
  cases m with
  | unused | disturbed _ => exact ruled
  | prepared | sweeping | occupied | clearing _ | clear => rfl

/-- An application leaves DISTURBED and UNUSED in place (R64, R72). -/
theorem ruled_appliedSection (x : Section) (ins outs : Nat) (passage : Bool)
    (ruled : (appliedSection x ins outs passage).mode.ruled = true) : x.mode.ruled = true := by
  unfold appliedSection at ruled
  dsimp only at ruled
  split at ruled
  · simp [ruled_disturbed] at ruled
  split at ruled
  · simp [ruled_disturbed] at ruled
  · exact ruled_ruleState _ _ _ _ _ ruled

theorem applySection_rulesNoMore (n : SectionId) (ins outs : Nat) (s : State) :
    RulesNoMore s (applySection n ins outs s) := by
  unfold applySection
  dsimp only
  split
  · exact .refl s
  · exact rulesNoMore_putSection (ruled_appliedSection _ _ _ _) _

theorem handOffStep_rulesNoMore (h : HandOff) (s : State) : RulesNoMore s (handOffStep h s) := by
  unfold handOffStep
  split
  · exact rulesNoMore_of_sections (recordAxles_only h s).sections
  · refine RulesNoMore.trans (t := applySideA h s) ?_ (rulesNoMore_of_sections rfl)
    unfold applySideA
    split
    · exact applySection_rulesNoMore _ _ _ s
    · exact .refl s
  · refine RulesNoMore.trans (t := applySideB h s) ?_ (rulesNoMore_of_sections rfl)
    unfold applySideB
    split
    · exact applySection_rulesNoMore _ _ _ s
    · exact .refl s
  · exact (rulesNoMore_of_relabels (relabels_activityStep h s)).trans (rulesNoMore_of_sections rfl)

theorem handOffOnce_rulesNoMore (s : State) : RulesNoMore s (handOffOnce s) := by
  unfold handOffOnce
  split
  · exact handOffStep_rulesNoMore _ s
  · exact .refl s

theorem handOffAll_rulesNoMore (s : State) : RulesNoMore s (handOffAll s) :=
  (handOffOnce_rulesNoMore _).trans <| (handOffOnce_rulesNoMore _).trans <|
    (handOffOnce_rulesNoMore _).trans (handOffOnce_rulesNoMore _)

theorem tick_rulesNoMore (s : State) : RulesNoMore s (tick s) := fun n => by
  have ticked : (s.sec n).mode.tick.ruled = (s.sec n).mode.ruled := by cases (s.sec n).mode <;> rfl
  rw [tick_sec]
  split
  · exact ticked ▸ id
  · exact id

theorem cleared_rulesNoMore {n : SectionId} (due : (s.sec n).mode = .clearing 0) :
    RulesNoMore s (putSection n (s.sec n).mode { s.sec n with mode := .clear } s) :=
  rulesNoMore_putSection (fun _ => by rw [due]; rfl) _

theorem startSection_unruled (img : List Byte) (n : SectionId) : (startSection img n).mode.ruled = false := by
  unfold startSection
  dsimp only
  split <;> rfl

theorem endLoad_unruled (image : List Byte) (s : State) (n : SectionId) :
    ((endLoad image s).sec n).mode.ruled = false := by
  by_cases good : imageFaultOf (presented image) = .none
  · rw [endLoad_of_good s good, append_sec, enterRunning_sec]
    exact startSection_unruled _ n
  · rw [endLoad_of_fault s good, append_sec, enterUnconfigured_sec]
    rfl

theorem coldStart_unruled (low : PortLevels) (s : State) (n : SectionId) :
    ((coldStart low s).sec n).mode.ruled = false := by
  rw [coldStart_sec]
  rfl

theorem restartSent_unruled (s : State) (n : SectionId) : ((restartSent s).sec n).mode.ruled = false := by
  rw [restartSent_sec]
  rfl

end

/-! ### Departures (R52, R53) -/

theorem disturbEach_ruled (cause : Cause) (ns : List SectionId) {s : State} {m : SectionId}
    (ruled : ((ns.foldl (fun v n => disturb cause n v) s).sec m).mode.ruled = true) :
    (s.sec m).mode.ruled = true ∧ m ∉ ns := by
  induction ns generalizing s with
  | nil => exact ⟨ruled, List.not_mem_nil⟩
  | cons n ns ih =>
    obtain ⟨(before : ((disturb cause n s).sec m).mode.ruled = true), others⟩ := ih ruled
    have ne : m ≠ n := by
      rintro rfl
      rw [disturb, putSection_sec, ruled_disturbed] at before
      exact nomatch before
    rw [disturb_sec_ne cause ne] at before
    exact ⟨before, by simp [ne, others]⟩

/-- The state logic rules on no section beside a point that has departed. -/
theorem depart_ruled (d : PointId) (c : PointCfg) (x : Point) (cause : Cause) (tel : Option Telegram) {s : State}
    {m : SectionId} (ruled : ((depart d c x cause tel s).sec m).mode.ruled = true) :
    (s.sec m).mode.ruled = true ∧ m ∉ c.adjacent := by
  rw [depart_eq] at ruled
  have before := rulesNoMore_of_relabels (relabels_cancelForEach .point (fun _ => true) c.adjacent _) m ruled
  exact disturbEach_ruled cause c.adjacent (s := departing d (leftSync cause tel x) cause s) before

theorem depart_point_ne (d : PointId) (c : PointCfg) (x : Point) (cause : Cause) (tel : Option Telegram) (s : State)
    {d' : PointId} (h : d' ≠ d) : (depart d c x cause tel s).point d' = s.point d' := by
  rw [State.point, depart_points]
  exact State.setPoint_ne s d _ d' h

/-! ### Sound states -/

/-- `t` has the image entries and the boundaries of `s`, its points in IN_SYNC stay there, and the state logic rules on
no more of its sections. -/
structure KeepsSync (s t : State) : Prop where
  cfg : ∀ d, (t.point d).cfg = (s.point d).cfg
  boundary : ∀ n, (t.sec n).boundary = (s.sec n).boundary
  ruled : RulesNoMore s t
  inSync : ∀ d, (s.point d).mode.name = .inSync → (t.point d).mode.name = .inSync

section
variable {s t : State}

theorem keepsSync_of_points (points : t.points = s.points) (boundary : ∀ n, (t.sec n).boundary = (s.sec n).boundary)
    (ruled : RulesNoMore s t) : KeepsSync s t := by
  have point : ∀ d, t.point d = s.point d := fun d => by rw [State.point, State.point, points]
  exact ⟨fun d => by rw [point], boundary, ruled, fun d => by rw [point]; exact id⟩

theorem keepsSync_of_sameBlocks (h : SameBlocks s t) : KeepsSync s t :=
  keepsSync_of_points h.points (fun n => by rw [h.sec]) (rulesNoMore_of_sections h.sections)

theorem keepsSync_of_relabels (h : Relabels s t) : KeepsSync s t := by
  refine keepsSync_of_points h.points (fun n => ?_) (rulesNoMore_of_relabels h)
  obtain ⟨_, _, _, same⟩ := h.sections n
  rw [same]

theorem syncSound_of_changes (hs : SyncSound s) (cfg : ∀ d, (t.point d).cfg = (s.point d).cfg)
    (boundary : ∀ n, (t.sec n).boundary = (s.sec n).boundary)
    (in_sync : ∀ n, (t.sec n).mode.ruled = true → ∀ b ∈ (s.sec n).boundary, (t.point b.point).mode.name = .inSync) :
    SyncSound t :=
  ⟨planSound_of_kept hs.plan cfg boundary, fun n ruled b hb => in_sync n ruled b (boundary n ▸ hb)⟩

theorem syncSound_of_keepsSync (h : KeepsSync s t) (hs : SyncSound s) : SyncSound t :=
  syncSound_of_changes hs h.cfg h.boundary fun n ruled b hb => h.inSync _ (hs.in_sync n (h.ruled n ruled) b hb)

theorem syncSound_of_unruled (plan : PlanSound t) (unruled : ∀ n, (t.sec n).mode.ruled = false) : SyncSound t :=
  ⟨plan, fun n ruled => absurd ruled (by simp [unruled n])⟩

/-- A departure disturbs every section that has the point in its boundary (R3, R53). -/
theorem depart_syncSound (hs : SyncSound s) {d : PointId} {c : PointCfg} {x : Point} (used : (s.point d).cfg = some c)
    (heads : SameHeads (s.point d) x) (cause : Cause) (tel : Option Telegram) :
    SyncSound (depart d c x cause tel s) := by
  have traffic := depart_sameTraffic heads c cause tel
  refine syncSound_of_changes hs (fun d' => (traffic.points d').cfg) (fun n => (traffic.sections n).boundary)
    fun n ruled b hb => ?_
  obtain ⟨before, away⟩ := depart_ruled d c x cause tel ruled
  have other : b.point ≠ d := by
    rintro rfl
    obtain ⟨c', used', adjacent⟩ := hs.plan n b hb
    obtain rfl := Option.some.inj (used.symm.trans used')
    exact away adjacent
  rw [depart_point_ne _ _ _ _ _ _ other]
  exact hs.in_sync n before b hb

/-! ### Deliveries and silence -/

/-- `t` is `s` but for the context of `d`, which keeps its image entry and stays in IN_SYNC if it is there. -/
structure StaysAt (d : PointId) (s t : State) : Prop where
  sections : t.sections = s.sections
  cfg : (t.point d).cfg = (s.point d).cfg
  others : ∀ d', d' ≠ d → t.point d' = s.point d'
  inSync : (s.point d).mode.name = .inSync → (t.point d).mode.name = .inSync

variable {d : PointId} {c : PointCfg} {x y : Point}

theorem StaysAt.keepsSync (h : StaysAt d s t) : KeepsSync s t := by
  refine ⟨fun d' => ?_, fun n => by simp only [State.sec, h.sections], rulesNoMore_of_sections h.sections,
    fun d' => ?_⟩ <;> by_cases hd : d' = d
  · rw [hd, h.cfg]
  · rw [h.others d' hd]
  · rw [hd]
    exact h.inSync
  · rw [h.others d' hd]
    exact id

theorem StaysAt.refl (d : PointId) (s : State) : StaysAt d s s := ⟨rfl, rfl, fun _ _ => rfl, id⟩

theorem StaysAt.setPoint (cfg : y.cfg = (s.point d).cfg)
    (inSync : (s.point d).mode.name = .inSync → y.mode.name = .inSync) : StaysAt d s (s.setPoint d y) := by
  refine ⟨rfl, ?_, fun d' hd => State.setPoint_ne _ _ _ _ hd, ?_⟩
  · rw [State.setPoint_same]
    exact cfg
  · rw [State.setPoint_same]
    exact inSync

theorem StaysAt.changePoint (cfg : y.cfg = (s.point d).cfg) (away : (s.point d).mode.name ≠ .inSync) (old : PointName)
    (cause : Option Cause) : StaysAt d s (changePoint d old y cause s) :=
  have set : StaysAt d s (s.setPoint d y) := .setPoint cfg fun h => absurd h away
  ⟨set.sections, set.cfg, set.others, set.inSync⟩

theorem HandsOff.staysAt (h : HandsOff d s t) (inSync : (t.point d).mode.name = .inSync) : StaysAt d s t :=
  ⟨h.sections, h.cfg, h.others, fun _ => inSync⟩

theorem enterSync_staysAt (h : SameHeads (s.point d) x) (cand tel : Telegram) :
    StaysAt d s (enterSync d x cand tel s) := by
  refine (enterSync_handsOff h cand tel).staysAt ?_
  rw [State.point, enterSync_points, ← State.point, State.setPoint_same]
  rfl

theorem acceptTelegram_staysAt (h : SameHeads (s.point d) x) (last tel : Telegram) (dAB dBA : Byte) (gap : Nat) :
    StaysAt d s (acceptTelegram d x last tel dAB dBA gap s) := by
  refine (acceptTelegram_handsOff h last tel dAB dBA gap).staysAt ?_
  rw [State.point, acceptTelegram_points, ← State.point, State.setPoint_same]
  rfl

theorem toFaulted_staysAt (h : SameHeads (s.point d) x) (away : (s.point d).mode.name ≠ .inSync) (tel : Telegram) :
    StaysAt d s (toFaulted d x tel s) := by
  refine .changePoint ?_ away _ _
  exact h.cfg

theorem toPending_staysAt (h : SameHeads (s.point d) x) (away : (s.point d).mode.name ≠ .inSync) (tel : Telegram) :
    StaysAt d s (toPending d x tel s) := by
  refine .changePoint ?_ away _ _
  exact h.cfg

theorem huntTelegram_staysAt (h : SameHeads (s.point d) x) (away : (s.point d).mode.name ≠ .inSync) (tel : Telegram) :
    StaysAt d s (huntTelegram d x tel s) := by
  unfold huntTelegram
  split
  · exact toFaulted_staysAt h away tel
  · exact toPending_staysAt h away tel

theorem faultedTelegram_staysAt (h : SameHeads (s.point d) x) (away : (s.point d).mode.name ≠ .inSync)
    (tel : Telegram) : StaysAt d s (faultedTelegram d x tel s) := by
  unfold faultedTelegram
  split
  · exact .setPoint h.cfg fun sync => absurd sync away
  · exact toPending_staysAt h away tel

theorem pendingTelegram_staysAt (h : SameHeads (s.point d) x) (away : (s.point d).mode.name ≠ .inSync)
    (cand tel : Telegram) : StaysAt d s (pendingTelegram d x cand tel s) := by
  unfold pendingTelegram
  split
  · exact toFaulted_staysAt h away tel
  split
  · exact enterSync_staysAt h cand tel
  split
  · exact .setPoint h.cfg fun sync => absurd sync away
  · exact .setPoint h.cfg fun sync => absurd sync away

/-- What the handling of a telegram for `d` comes to: the point stays in IN_SYNC if it is there, or it departs. -/
def StaysOrDeparts (d : PointId) (c : PointCfg) (s t : State) : Prop :=
  StaysAt d s t ∨ ∃ x cause tel, SameHeads (s.point d) x ∧ t = depart d c x cause tel s

theorem judgeCounts_staysOrDeparts (h : SameHeads (s.point d) x) (last : Telegram) (bAB bBA : Byte) (tel : Telegram)
    (gap : Nat) : StaysOrDeparts d c s (judgeCounts d c x last bAB bBA tel gap s) := by
  unfold judgeCounts
  split
  · exact .inl (acceptTelegram_staysAt h last tel _ _ gap)
  · exact .inr ⟨_, _, _, h, rfl⟩

theorem inSyncTelegram_staysOrDeparts (h : SameHeads (s.point d) x) (mode : x.mode = (s.point d).mode) (last : Telegram)
    (older : Option Telegram) (bAB bBA : Byte) (e : BitVec 3) (tel : Telegram) :
    StaysOrDeparts d c s (inSyncTelegram d c x last older bAB bBA e tel s) := by
  unfold inSyncTelegram
  split
  · split
    · refine .inl (.setPoint h.cfg fun sync => ?_)
      exact (congrArg PointMode.name mode).trans sync
    · exact .inr ⟨_, _, _, h, rfl⟩
  split
  · exact .inr ⟨_, _, _, h, rfl⟩
  split
  · exact .inr ⟨_, _, _, h, rfl⟩
  split
  · refine judgeCounts_staysOrDeparts ?_ last bAB bBA tel _
    exact ⟨h.cfg, h.h1, h.h2⟩
  · exact judgeCounts_staysOrDeparts h last bAB bBA tel 0
  · exact .inr ⟨_, _, _, h, rfl⟩
  · exact .inr ⟨_, _, _, h, rfl⟩

theorem supervise_staysOrDeparts {del : Delivery} (used : (s.point del.point).cfg = some c) (l : LineId) :
    StaysOrDeparts del.point c s (supervise l del s) := by
  have heard : SameHeads (s.point del.point) ((s.point del.point).heard c l) := ⟨rfl, rfl, rfl⟩
  have away : ∀ {m : PointMode}, ((s.point del.point).heard c l).mode = m → m.name ≠ .inSync →
      (s.point del.point).mode.name ≠ .inSync := fun mode other => by
    rw [← mode] at other
    exact other
  unfold supervise
  rw [used]
  dsimp only
  split
  case h_1 => exact .inl (.refl _ s)
  case h_2 mode => exact .inl (huntTelegram_staysAt heard (away mode nofun) _)
  case h_3 mode => exact .inl (huntTelegram_staysAt heard (away mode nofun) _)
  case h_4 mode => exact .inl (pendingTelegram_staysAt heard (away mode nofun) _ _)
  case h_5 => exact inSyncTelegram_staysOrDeparts heard rfl _ _ _ _ _ _
  case h_6 mode => exact .inl (faultedTelegram_staysAt heard (away mode nofun) _)

theorem supervise_syncSound (hs : SyncSound s) (l : LineId) (del : Delivery) : SyncSound (supervise l del s) := by
  cases used : (s.point del.point).cfg with
  | none =>
    have ignored : supervise l del s = s := by simp only [supervise, used]
    rw [ignored]
    exact hs
  | some c =>
    obtain stays | ⟨x, cause, tel, heads, departs⟩ := supervise_staysOrDeparts used l
    · exact syncSound_of_keepsSync stays.keepsSync hs
    · rw [departs]
      exact depart_syncSound hs used heads cause tel

theorem takeDelivery_syncSound (hs : SyncSound s) (l : LineId) : SyncSound (takeDelivery l s) := by
  unfold takeDelivery
  split
  · exact hs
  · exact supervise_syncSound (syncSound_of_keepsSync (keepsSync_of_sameBlocks (.ofLines (setLine_only _ _ _))) hs) l _

theorem pointSilent_syncSound (hs : SyncSound s) (d : PointId) : SyncSound (pointSilent d s) := by
  have lost : (s.point d).mode.name ≠ .inSync → ∀ old cause,
      SyncSound (changePoint d old { s.point d with mode := .lost, silence := none } cause s) :=
    fun away old cause => syncSound_of_keepsSync (StaysAt.changePoint (by rfl) away old cause).keepsSync hs
  unfold pointSilent
  dsimp only
  split
  · exact depart_syncSound hs (by assumption) (.refl _) _ _
  · rename_i mode
    exact lost (by rw [mode]; nofun) _ _
  · rename_i mode
    exact lost (by rw [mode]; nofun) _ _
  all_goals exact hs

/-! ### The other moves -/

theorem handOffOnce_boundary (s : State) (n : SectionId) : ((handOffOnce s).sec n).boundary = (s.sec n).boundary := by
  unfold handOffOnce handOffStep
  split
  · split
    · rw [setStage_sec, (recordAxles_only _ _).sec]
    · exact (applySideA_applied _ s).boundary n
    · exact (applySideB_applied _ s).boundary n
    · exact (SameTraffic.ofRelabels (relabels_activityStep _ s)).sections n |>.boundary
  · rfl

theorem handOffOnce_syncSound (hs : SyncSound s) : SyncSound (handOffOnce s) :=
  syncSound_of_keepsSync
    (keepsSync_of_points (handOffOnce_points s) (handOffOnce_boundary s) (handOffOnce_rulesNoMore s)) hs

/-- A completion has found every boundary point IN_SYNC (R109). -/
theorem completeTxn_syncSound (hs : SyncSound s) (k : SlotId) {u : Txn} (checked : completionCheck u s = true) :
    SyncSound (completeTxn k u s) := by
  have only := completeTxn_only k u s
  simp only [completionCheck, Bool.and_eq_true] at checked
  obtain ⟨⟨-, inSync⟩, -⟩ := checked
  refine syncSound_of_changes hs (fun d => by rw [only.point]) (fun n => ?_) fun n ruled b hb => ?_ <;>
    by_cases hn : n = u.sec
  · rw [hn, completeTxn_sec_same]
    rfl
  · rw [completeTxn_sec_ne _ _ _ hn]
  · rw [only.point]
    simp only [allInSync, List.all_eq_true, beq_iff_eq] at inSync
    exact inSync b (hn ▸ hb)
  · rw [completeTxn_sec_ne _ _ _ hn] at ruled
    rw [only.point]
    exact hs.in_sync n ruled b hb

theorem tick_syncSound (hs : SyncSound s) : SyncSound (tick s) := by
  have traffic := tick_sameTraffic s
  refine syncSound_of_keepsSync ⟨fun d => (traffic.points d).cfg, fun n => (traffic.sections n).boundary,
    tick_rulesNoMore s, fun d => ?_⟩ hs
  rw [tick_point]
  split <;> exact id

end

theorem blockMove_syncSound (s t : State) (h : BlockMove s t) (hs : SyncSound s) : SyncSound t := by
  cases h with
  | stay => exact hs
  | coldStart low =>
    refine syncSound_of_unruled (passageSound_of_bare fun n => ?_).plan (coldStart_unruled low s)
    rw [coldStart_sec]
    exact ⟨rfl, rfl⟩
  | endLoad image => exact syncSound_of_unruled (endLoad_passageSound image s).plan (endLoad_unruled image s)
  | restartSent =>
    refine syncSound_of_unruled (passageSound_of_bare fun n => ?_).plan (restartSent_unruled s)
    rw [restartSent_sec]
    exact ⟨rfl, rfl⟩
  | tick => exact tick_syncSound hs
  | clearStats =>
    refine syncSound_of_keepsSync (s := s) ⟨fun d => ?_, fun _ => rfl, .refl s, fun d => ?_⟩ hs
    · rw [clearAllStats_point]
    · rw [clearAllStats_point]
      exact id
  | takeDelivery l => exact takeDelivery_syncSound hs l
  | pointSilent d => exact pointSilent_syncSound hs d
  | handOffOnce => exact handOffOnce_syncSound hs
  | handOffAll =>
    exact handOffOnce_syncSound <| handOffOnce_syncSound <| handOffOnce_syncSound <| handOffOnce_syncSound hs
  | cleared n due =>
    refine syncSound_of_keepsSync (keepsSync_of_points (putSection_only _ _ _ _).points (fun m => ?_)
      (cleared_rulesNoMore due)) hs
    exact ((cleared_sameTraffic due).sections m).boundary
  | inhibited p n on => exact syncSound_of_keepsSync (keepsSync_of_relabels (relabels_setInhibitFlag p n on s)) hs
  | opened p n kind k => exact syncSound_of_keepsSync (keepsSync_of_relabels (relabels_openTransaction p n kind k s)) hs
  | ended e k u => exact syncSound_of_keepsSync (keepsSync_of_relabels (relabels_endTxn e k u s)) hs
  | confirmed p k u => exact syncSound_of_keepsSync (keepsSync_of_relabels (relabels_addConfirmation p k u s)) hs
  | notReady p k u =>
    exact syncSound_of_keepsSync
      (keepsSync_of_relabels ((relabels_addConfirmation p k u s).trans (relabels_endTxn _ _ _ _))) hs
  | completed p k u _ checked =>
    exact completeTxn_syncSound
      (syncSound_of_keepsSync (keepsSync_of_relabels (relabels_addConfirmation p k u s)) hs) k checked

/-- Settles O58: no move lets the state logic rule on a section but a completion, which has checked the boundary, and
what takes a point out of IN_SYNC disturbs the sections beside it. -/
theorem syncKept : Obligations.SyncKept := by
  unfold Obligations.SyncKept
  exact step_keeps_of_moves (fun _ _ h => syncSound_of_keepsSync (keepsSync_of_sameBlocks h)) blockMove_syncSound

end Sys2Proof.Proofs
end

section
/-! Proofs: SET INHIBIT (R93, R116) and CONFIRM RESET (R107 to R111): each row of their rules, and the state after
it. -/

namespace Sys2Proof.Proofs

open Sys2Proof.Machine Sys2Proof.Safety Sys2Proof.Claims

/-! ### Effects that leave the port links alone -/

/-- `s` with other port links and other arbiter pointers. -/
def withLinks (ports : Vector Port 4) (one : RingOne) (two : RingTwo) (s : State) : State :=
  { s with ports := ports, arbOne := one, arbTwo := two }

/-- `f` leaves the port links alone, and looks neither at them nor at the arbiter's pointers. -/
structure Unlinked (f : State → State) : Prop where
  ports : ∀ s, (f s).ports = s.ports
  apart : ∀ ports one two s, f (withLinks ports one two s) = withLinks ports one two (f s)

namespace Unlinked

variable {f g : State → State}

theorem skip : Unlinked fun s => s := ⟨fun _ => rfl, fun _ _ _ _ => rfl⟩

theorem comp (hg : Unlinked g) (hf : Unlinked f) : Unlinked fun s => g (f s) :=
  ⟨fun s => (hg.ports _).trans (hf.ports s), fun ports one two s => by rw [hf.apart, hg.apart]⟩

/-- Such an effect on the part whose request has been taken is the effect, and then the request taken (R157). -/
theorem takeRequest (hf : Unlinked f) (p : PortId) (one : RingOne) (two : RingTwo) (s : State) :
    f (takeRequest p one two s) = Machine.takeRequest p one two (f s) := by
  have taken : ∀ v, Machine.takeRequest p one two v =
      withLinks (tset v.ports (portIndex p) { v.port p with queue := (v.port p).queue.tail }) one two v := fun _ => rfl
  rw [taken, taken, hf.apart, State.port, State.port, hf.ports]

end Unlinked

theorem raiseReset_unlinked (proposer : PortId) : Unlinked (raiseReset proposer) := by
  refine ⟨fun s => (raiseReset_only _ s).ports, fun ports one two s => ?_⟩
  unfold raiseReset
  dsimp only
  split <;> rfl

theorem endTxn_unlinked (e : ResetEvent) (k : SlotId) (u : Txn) : Unlinked (endTxn e k u) :=
  (raiseReset_unlinked u.proposer).comp
    (f := fun s => setOpenTxn u.sec none ((append (resetRecord u e) s).setSlot k none))
    ⟨fun _ => rfl, fun _ _ _ _ => rfl⟩

theorem cancelFor_unlinked (reason : CancelReason) (q : Txn → Bool) (n : SectionId) :
    Unlinked (cancelFor reason q n) := by
  refine ⟨fun s => (cancelFor_only _ _ _ s).ports, fun ports one two s => ?_⟩
  have found : findTxn (fun u => u.sec == n && q u) (withLinks ports one two s) =
      findTxn (fun u => u.sec == n && q u) s := rfl
  unfold cancelFor
  rw [found]
  split
  · exact (endTxn_unlinked _ _ _).apart ports one two s
  · rfl

theorem setInhibitFlag_unlinked (p : PortId) (n : SectionId) (on : Bool) : Unlinked (setInhibitFlag p n on) := by
  refine ⟨fun s => (setInhibitFlag_only _ _ _ s).ports, fun ports one two s => ?_⟩
  have same : (withLinks ports one two s).sec n = s.sec n := rfl
  have flagged : ∀ x, (withLinks ports one two s).setSec n x = withLinks ports one two (s.setSec n x) := fun _ => rfl
  unfold setInhibitFlag
  rw [same, flagged]
  dsimp only
  split
  · exact (cancelFor_unlinked _ _ _).apart ports one two _
  · rfl

theorem addConfirmation_unlinked (p : PortId) (k : SlotId) (u : Txn) : Unlinked (addConfirmation p k u) :=
  ⟨fun _ => rfl, fun _ _ _ _ => rfl⟩

theorem putSection_unlinked (n : SectionId) (old : SectionMode) (x : Section) : Unlinked (putSection n old x) := by
  refine ⟨fun s => (putSection_only _ _ _ s).ports, fun ports one two s => ?_⟩
  unfold putSection
  dsimp only
  split <;> rfl

theorem completeTxn_unlinked (k : SlotId) (u : Txn) : Unlinked (completeTxn k u) := by
  refine ⟨fun s => (completeTxn_only _ _ s).ports, fun ports one two s => ?_⟩
  unfold completeTxn
  dsimp only
  rw [← (raiseReset_unlinked _).apart]
  exact congrArg (fun v => raiseReset u.proposer (v.setSlot k none))
    ((putSection_unlinked u.sec _ _).apart ports one two (append (resetRecord u .completed) s))

/-- A request in RUNNING whose rule has an effect and a result is answered with the result, after the effect. -/
theorem serve_settled {s : State} {p : PortId} {r : Request} {queue : List Request} {one : RingOne} {two : RingTwo}
    {rule : PortId → Request → State → Reply} {result : ResultCode} {payload : List Byte} {f : State → State}
    (takes : Takes s p r queue one two) (running : s.part = .running) (right : permitted p r.kind = true)
    (other : r.kind ≠ .restart) (unlinked : Unlinked f)
    (reply : rule p r (takeRequest p one two s) = ⟨f (takeRequest p one two s), result, payload⟩) :
    Settled (settle (serve rule p r (takeRequest p one two s))) (Answered (f s) p r queue one two result payload) := by
  have waits : ((f s).port p).queue = r :: queue := by
    rw [State.port, unlinked.ports]
    exact queue_of_takes takes
  rw [serve_of_reply ((examine_running running right).trans reply)]
  simp only [answerKind, other, false_and, if_false, unlinked.takeRequest, placeAnswer_served waits]
  exact settled_settle _

/-! ### SET INHIBIT (R93, R116) -/

section
variable {p : PortId} {r : Request} {m : SectionId} {s : State}

theorem byte_of_lt_two {b : Byte} (h : b.toNat < 2) : b = 0 ∨ b = 1 := by bv_omega

theorem sectionOfByte_of_val (named : m.val = (r.byte 0).toNat) : sectionOfByte (r.byte 0) = some m :=
  numbered_of_lt m named

theorem setInhibitRule_range (h : 24 ≤ (r.byte 0).toNat ∨ 2 ≤ (r.byte 1).toNat) :
    setInhibitRule p r s = refuse .range s := by
  unfold setInhibitRule
  split
  · rfl
  rename_i n named
  obtain beyond | large := h
  · have none : sectionOfByte (r.byte 0) = .none := numbered_of_le beyond
    exact nomatch none.symm.trans named
  · have neither : r.byte 1 ≠ 0 ∧ r.byte 1 ≠ 1 := ⟨by bv_omega, by bv_omega⟩
    rw [if_pos neither]

/-- A request that names a section and a setting passes the first check of R93. -/
theorem setInhibitRule_in_range (named : m.val = (r.byte 0).toNat) (small : (r.byte 1).toNat < 2) :
    setInhibitRule p r s =
      if (s.sec m).mode = .unused then refuse .notPermitted s else okay [] (setInhibitFlag p m (r.byte 1 == 1) s) := by
  have setting : ¬ (r.byte 1 ≠ 0 ∧ r.byte 1 ≠ 1) := fun ⟨zero, one⟩ => (byte_of_lt_two small).elim zero one
  simp only [setInhibitRule, sectionOfByte_of_val named, if_neg setting]

theorem withInhibit_eq (channel : p = .ixa ∨ p = .ixb) (x : Section) (on : Bool) :
    x.withInhibit p on = if p = .ixa then { x with inhibitA := on } else { x with inhibitB := on } := by
  obtain rfl | rfl := channel <;> rfl

theorem inhibitOf_eq (channel : p = .ixa ∨ p = .ixb) (x : Section) :
    x.inhibitOf p = if p = .ixa then x.inhibitA else x.inhibitB := by
  obtain rfl | rfl := channel <;> rfl

/-- Nothing is cancelled where the flag does not go from off to on, or no transaction is open for the section. -/
theorem setInhibitFlag_keeps {on : Bool}
    (h : on = false ∨ (s.sec m).inhibitOf p = true ∨ ∀ k u, s.slot k = some u → u.sec ≠ m) :
    setInhibitFlag p m on s = s.setSec m ((s.sec m).withInhibit p on) := by
  unfold setInhibitFlag
  dsimp only
  split
  · rename_i raised
    simp only [Bool.and_eq_true, Bool.not_eq_true'] at raised
    obtain off | was | none := h
    · exact nomatch off.symm.trans raised.1
    · exact nomatch was.symm.trans raised.2
    · exact cancelFor_of_none fun k u opened same => absurd same (none k u opened)
  · rfl

theorem setInhibitFlag_cancels (hs : TxnSound s) {k : SlotId} {u : Txn} (was : (s.sec m).inhibitOf p = false)
    (opened : s.slot k = some u) (same : u.sec = m) :
    setInhibitFlag p m true s =
      endTxn (.cancelled .inhibited) k u (s.setSec m ((s.sec m).withInhibit p true)) := by
  subst same
  unfold setInhibitFlag
  rw [was]
  exact cancelFor_of_open (s := s.setSec u.sec ((s.sec u.sec).withInhibit p true)) opened rfl
    fun j v found same => hs.one_section j k v u found opened same

end

/-- Settles O30: the checks in order, then the flag, with or without a cancellation. -/
theorem setInhibitOutcome : Obligations.SetInhibitOutcome := by
  unfold Obligations.SetInhibitOutcome
  intro s p r queue one two takes kind channel running sound n on
  have right : permitted p r.kind = true := by obtain rfl | rfl := channel <;> rw [kind] <;> rfl
  have answered : ∀ {f : State → State} {result : ResultCode}, Unlinked f →
      setInhibitRule p r (takeRequest p one two s) = ⟨f (takeRequest p one two s), result, []⟩ →
      ∃ t, exec .setInhibit s = .next t ∧ Settled t (Answered (f s) p r queue one two result []) := by
    intro f result unlinked reply
    have step := engineStep_of_takes takes setInhibitRule
    rw [kind] at step
    exact ⟨_, step, serve_settled takes running right (by rw [kind]; decide) unlinked reply⟩
  refine ⟨fun bad => answered .skip (setInhibitRule_range bad), fun m named small => ⟨fun unused => ?_, fun used => ?_⟩⟩
  · exact answered .skip ((setInhibitRule_in_range named small).trans (if_pos unused))
  · intro x was s1
    have flagged : s1 = s.setSec m ((s.sec m).withInhibit p (on == 1)) := by rw [withInhibit_eq channel]
    obtain ⟨t, step, settled⟩ := answered (setInhibitFlag_unlinked p m (on == 1))
      ((setInhibitRule_in_range named small).trans (if_neg used))
    refine ⟨fun quiet => ⟨t, step, ?_⟩, fun k u set off opened same => ⟨t, _, step, ?_, settled⟩⟩
    · rw [setInhibitFlag_keeps, ← flagged] at settled
      · exact settled
      · rw [inhibitOf_eq channel]
        exact quiet.imp_left fun zero => by rw [zero]; rfl
    · have raised : (on == 1) = true := beq_iff_eq.mpr set
      rw [flagged, raised, setInhibitFlag_cancels sound ((inhibitOf_eq channel _).trans off) opened same]
      exact endTxn_ended _

/-! ### CONFIRM RESET (R107 to R111) -/

section
variable {p : PortId} {r : Request} {s : State} {k : SlotId} {u : Txn}

theorem boundaryFree_iff (s : State) (n : SectionId) : allHeadsFree (s.sec n) s = true ↔ BoundaryFree s n := by
  rw [allHeadsFree, Bool.not_eq_true', ← Bool.not_eq_true, passageOf_iff]
  push Not
  simp only [BoundaryFree, Bool.not_eq_true, Ne]

/-- The completion check of the model is the one of R109. -/
theorem completionCheck_iff (u : Txn) (s : State) : completionCheck u s = true ↔ CheckPasses s u := by
  have direct : (u.kind != .direct || (allHeadsFree (s.sec u.sec) s && u.proposer == .mnt)) = true ↔
      (u.kind = .direct → BoundaryFree s u.sec ∧ u.proposer = .mnt) := by
    rw [Bool.or_eq_true, Bool.and_eq_true, boundaryFree_iff, bne_iff_ne, beq_iff_eq, imp_iff_not_or]
  simp only [completionCheck, Bool.and_eq_true, direct, CheckPasses, Uninhibited, BoundaryInSync, allInSync,
    List.all_eq_true, Section.isDisturbed, beq_iff_eq, Bool.not_eq_true', and_assoc]

/-- The check looks at nothing that a confirmation changes. -/
theorem checkPasses_confirm (p : PortId) (k : SlotId) (u : Txn) (s : State) :
    CheckPasses (addConfirmation p k u s) (u.confirm p) ↔ CheckPasses s u := by
  cases p <;> exact Iff.rfl

theorem checkPasses_takeRequest (one : RingOne) (two : RingTwo) :
    CheckPasses (takeRequest p one two s) u ↔ CheckPasses s u := Iff.rfl

theorem ended_confirm {e : ResetEvent} {v : State} : Ended e k (u.confirm p) s v ↔ Ended e k u s v := by
  cases p <;> exact Iff.rfl

theorem completed_confirm {v : State} : Completed k (u.confirm p) s v ↔ Completed k u s v := by
  cases p <;> exact Iff.rfl

/-- The state that a completion of a kind gives a section (R91). -/
def completedMode (kind : ResetKind) : SectionMode := if kind = .preparatory then .prepared else .clear

theorem completedSection_eq (kind : ResetKind) (x : Section) :
    completedSection kind x =
      { x with
        mode := completedMode kind
        net := 0
        inTally := 0
        outTally := 0
        repeatCount := 0
        openTxn := none
        passage := x.passage && kind == .preparatory } := by
  cases kind <;> simp [completedSection, completedMode]

/-- A completion writes a STATE record, as the section was DISTURBED (R79, R91). -/
theorem putSection_completed (n : SectionId) {x : Section} (disturbed : x.mode.name = .disturbed) (kind : ResetKind) :
    putSection n x.mode (completedSection kind x) s =
      append (.state n .disturbed (completedMode kind).name none 0) (s.setSec n (completedSection kind x)) := by
  unfold putSection
  rw [disturbed]
  cases kind <;> rfl

/-- A completion restores a DISTURBED section, with its two records (R91, R110). -/
theorem completeTxn_completed (disturbed : (s.sec u.sec).mode.name = .disturbed) :
    Completed k u s (completeTxn k u s) := by
  have records : completeTxn k u s = raiseReset u.proposer
      ((append (.state u.sec .disturbed (completedMode u.kind).name none 0)
        ((append (resetRecord u .completed) s).setSec u.sec (completedSection u.kind (s.sec u.sec)))).setSlot k none) :=
    congrArg (fun v : State => raiseReset u.proposer (v.setSlot k none))
      (putSection_completed (s := append (resetRecord u .completed) s) u.sec disturbed u.kind)
  refine ⟨(completeTxn_only k u s).1, ?_, completeTxn_slot_same _ _ _, fun j hj => completeTxn_slot_ne _ _ _ hj, ?_,
    fun n hn => completeTxn_sec_ne _ _ _ hn, fun q => ?_⟩
  · rw [records, raiseReset_journal]
    rfl
  · rw [completeTxn_sec_same, completedSection_eq]
    rfl
  · rw [records, raiseReset_watch]
    simp [resetRecord, RecordBody.isState, watchAppend_eq]

theorem confirm_eq (channel : p = .ixa ∨ p = .ixb) (u : Txn) :
    u.confirm p = if p = .ixa then { u with byIxa := true } else { u with byIxb := true } := by
  obtain rfl | rfl := channel <;> rfl

theorem confirmedBy_eq (channel : p = .ixa ∨ p = .ixb) (u : Txn) :
    u.confirmedBy p = if p = .ixa then u.byIxa else u.byIxb := by
  obtain rfl | rfl := channel <;> rfl

/-- After the confirmation of a channel both are in the set if the other one was (R108). -/
theorem bothConfirmed_eq (channel : p = .ixa ∨ p = .ixb) (u : Txn) :
    ((u.confirm p).byIxa && (u.confirm p).byIxb) = if p = .ixa then u.byIxb else u.byIxa := by
  obtain rfl | rfl := channel
  · exact Bool.true_and _
  · exact Bool.and_true _

theorem byteOf_section (n : SectionId) (b : Byte) : byteOf n.val = b ↔ n.val = b.toNat := by
  rw [← BitVec.toNat_inj, byteOf_toNat (by omega)]

/-! The rows of R107, and the completion check of R109. -/

theorem confirmResetRule_unknown (none : ∀ k u, s.slot k = some u → u.number ≠ r.byte 0) :
    confirmResetRule p r s = refuse .unknownTxn s := by
  have found : txnOfNumber (r.byte 0) s = .none := findTxn_none.mpr fun k u opened => by simpa using none k u opened
  simp only [confirmResetRule, found]

theorem txnOfNumber_of_open (hs : TxnSound s) (opened : s.slot k = some u) (number : u.number = r.byte 0) :
    txnOfNumber (r.byte 0) s = some (k, u) :=
  findTxn_unique opened (by simp [number]) fun j v found same =>
    hs.one_number j k v u found opened (number ▸ by simpa using same)

section
variable (found : txnOfNumber (r.byte 0) s = some (k, u))
include found

theorem confirmResetRule_mismatch (wrong : u.sec.val ≠ (r.byte 1).toNat) :
    confirmResetRule p r s = ⟨endTxn (.cancelled .mismatch) k u s, .mismatch, []⟩ := by
  have wrong : byteOf u.sec.val ≠ r.byte 1 := (byteOf_section _ _).not.mpr wrong
  simp only [confirmResetRule, found, if_pos wrong]

variable (right : u.sec.val = (r.byte 1).toNat)
include right

theorem confirmResetRule_duplicate (held : u.confirmedBy p = true) : confirmResetRule p r s = refuse .duplicate s := by
  have right : byteOf u.sec.val = r.byte 1 := (byteOf_section _ _).mpr right
  simp only [confirmResetRule, found, if_neg (not_not.mpr right), held, if_true]

variable (fresh : u.confirmedBy p = false)
include fresh

/-- The confirmation of a channel that is not in the set (R108). -/
theorem confirmResetRule_added :
    confirmResetRule p r s =
      if ((u.confirm p).byIxa && (u.confirm p).byIxb) = true then
        if completionCheck (u.confirm p) (addConfirmation p k u s) = true then
          okay [0x01] (completeTxn k (u.confirm p) (addConfirmation p k u s))
        else ⟨endTxn (.cancelled .notReady) k (u.confirm p) (addConfirmation p k u s), .notReady, []⟩
      else okay [0x00] (addConfirmation p k u s) := by
  have right : byteOf u.sec.val = r.byte 1 := (byteOf_section _ _).mpr right
  simp only [confirmResetRule, found, if_neg (not_not.mpr right), fresh, Bool.false_eq_true, if_false]

theorem confirmResetRule_half (half : ((u.confirm p).byIxa && (u.confirm p).byIxb) = false) :
    confirmResetRule p r s = okay [0x00] (addConfirmation p k u s) := by
  rw [confirmResetRule_added found right fresh, half]
  rfl

theorem confirmResetRule_completed (both : ((u.confirm p).byIxa && (u.confirm p).byIxb) = true)
    (checked : CheckPasses s u) :
    confirmResetRule p r s = okay [0x01] (completeTxn k (u.confirm p) (addConfirmation p k u s)) := by
  rw [confirmResetRule_added found right fresh, if_pos both, if_pos]
  exact (completionCheck_iff _ _).mpr ((checkPasses_confirm p k u s).mpr checked)

theorem confirmResetRule_notReady (both : ((u.confirm p).byIxa && (u.confirm p).byIxb) = true)
    (failed : ¬ CheckPasses s u) :
    confirmResetRule p r s =
      ⟨endTxn (.cancelled .notReady) k (u.confirm p) (addConfirmation p k u s), .notReady, []⟩ := by
  rw [confirmResetRule_added found right fresh, if_pos both, if_neg]
  exact fun checked => failed ((checkPasses_confirm p k u s).mp ((completionCheck_iff _ _).mp checked))

end

end

/-- Settles O33: each row of R107 is one equation of the rule, and each effect leaves the port links alone. -/
theorem confirmationOutcome : Obligations.ConfirmationOutcome := by
  unfold Obligations.ConfirmationOutcome
  intro s p r queue one two takes kind channel running sound
  have permit : permitted p r.kind = true := by obtain rfl | rfl := channel <;> rw [kind] <;> rfl
  have step := engineStep_of_takes takes confirmResetRule
  rw [kind] at step
  have settled : ∀ {f : State → State} {result : ResultCode} {payload : List Byte}, Unlinked f →
      confirmResetRule p r (takeRequest p one two s) = ⟨f (takeRequest p one two s), result, payload⟩ →
      Settled (settle (serve confirmResetRule p r (takeRequest p one two s)))
        (Answered (f s) p r queue one two result payload) :=
    serve_settled takes running permit (by rw [kind]; decide)
  refine ⟨fun none => ⟨_, step, settled .skip (confirmResetRule_unknown none)⟩, fun k u opened number => ?_⟩
  intro right held other u1 s1
  have found : txnOfNumber (r.byte 0) (takeRequest p one two s) = some (k, u) :=
    txnOfNumber_of_open (s := s) sound opened number
  have added : addConfirmation p k u s = s1 := by
    unfold addConfirmation
    rw [confirm_eq channel]
    rfl
  have fresh : held = false → u.confirmedBy p = false := (confirmedBy_eq channel u).trans
  have both : ∀ {b}, other = b → ((u.confirm p).byIxa && (u.confirm p).byIxb) = b := (bothConfirmed_eq channel u).trans
  refine ⟨_, step, fun wrong => ⟨_, endTxn_ended _, ?mismatch⟩, fun named again => ?duplicate,
    fun named first half => ?half,
    fun named first last checked => ⟨completeTxn k (u.confirm p) s1, ?_, ?completed⟩,
    fun named first last failed => ⟨endTxn (.cancelled .notReady) k (u.confirm p) s1, ?_, ?notReady⟩⟩
  case mismatch => exact settled (endTxn_unlinked _ _ _) (confirmResetRule_mismatch found wrong)
  case duplicate =>
    exact settled .skip (confirmResetRule_duplicate found named ((confirmedBy_eq channel u).trans again))
  case half =>
    have answered := settled (addConfirmation_unlinked p k u)
      (confirmResetRule_half found named (fresh first) (both half))
    rwa [added] at answered
  case completed =>
    have effect := (completeTxn_unlinked k (u.confirm p)).comp (addConfirmation_unlinked p k u)
    have answered := settled effect (confirmResetRule_completed found named (fresh first) (both last)
      ((checkPasses_takeRequest one two).mpr checked))
    rwa [added] at answered
  case notReady =>
    have effect := (endTxn_unlinked (.cancelled .notReady) k (u.confirm p)).comp (addConfirmation_unlinked p k u)
    have answered := settled effect (confirmResetRule_notReady found named (fresh first) (both last)
      ((checkPasses_takeRequest one two).not.mpr failed))
    rwa [added] at answered
  · obtain ⟨disturbed, -⟩ := checked
    refine completed_confirm.mp (completeTxn_completed ?_)
    rw [confirm_sec]
    exact disturbed
  · exact ended_confirm.mp (endTxn_ended _)

end Sys2Proof.Proofs
end

section
/-! Proofs: a section leaves DISTURBED for a state of a used section by a completion alone (R89, R91, R107, R109). -/

namespace Sys2Proof.Proofs

open Sys2Proof.Machine Sys2Proof.Safety Sys2Proof.Claims

theorem ruled_iff (m : SectionMode) : m.ruled = true ↔ m.name ≠ .disturbed ∧ m.name ≠ .unused := by
  cases m <;> simp [SectionMode.ruled, SectionMode.name]

/-! ### Requests, taken apart -/

section
variable {s t : State} {kind : RequestKind} {rule : PortId → Request → State → Reply}

/-- Where the engine takes a request of a kind, a port has it at the head of its queue (R157). -/
theorem takes_of_engineTakes (h : engineTakes kind s = true) :
    ∃ p r queue one two, Takes s p r queue one two ∧ r.kind = kind := by
  unfold engineTakes at h
  obtain ⟨ready, next⟩ := Bool.and_eq_true_iff.mp h
  obtain ⟨high, started, unserved, idle⟩ := (engineReady_iff s).mp ready
  cases chosen : choose s with
  | none => simp [nextRequest, chosen] at next
  | some choice =>
    obtain ⟨p, one, two⟩ := choice
    cases hq : (s.port p).queue with
    | nil => simp [nextRequest, chosen, hq] at next
    | cons r queue =>
      have asked : r.kind = kind := by simpa [nextRequest, chosen, hq] using next
      exact ⟨p, r, queue, one, two, ⟨high, started, unserved, idle, chosen, hq⟩, asked⟩

/-- A request command leaves the sections alone, or as the rule of the request leaves them that a port may make. -/
theorem engineStep_sections (h : engineStep kind rule s = .next t) :
    t.sections = s.sections ∨ ∃ p r queue one two, Takes s p r queue one two ∧ r.kind = kind ∧
      permitted p kind = true ∧ t.sections = (rule p r (takeRequest p one two s)).state.sections := by
  obtain ⟨can, -⟩ | ⟨-, rfl⟩ := event_next h
  · obtain ⟨p, r, queue, one, two, takes, rfl⟩ := takes_of_engineTakes can
    obtain rfl := Host.Outcome.next.inj ((engineStep_of_takes takes rule).symm.trans h)
    rw [settle_sections]
    unfold serve examine
    dsimp only
    rw [(placeAnswer_only _ _ _).sections]
    split
    · split
      · exact .inl rfl
      · exact .inr ⟨p, r, queue, one, two, takes, rfl, by assumption, rfl⟩
    · exact .inl rfl
  · exact .inl rfl

end

/-! ### The commands that complete no reset -/

section
variable {s t : State}

theorem event_rulesNoMore {can : Bool} {eff : State → State} (h : event can eff s = .next t)
    (moves : can = true → RulesNoMore s (eff s)) : RulesNoMore s t := by
  obtain ⟨hcan, rfl⟩ | ⟨-, rfl⟩ := event_next h
  · exact moves hcan
  · exact .refl _

theorem engineStep_rulesNoMore {kind : RequestKind} {rule : PortId → Request → State → Reply}
    (h : engineStep kind rule s = .next t) (moves : ∀ p r u, RulesNoMore u (rule p r u).state) : RulesNoMore s t := by
  obtain same | ⟨p, r, queue, one, two, -, -, -, served⟩ := engineStep_sections h
  · exact rulesNoMore_of_sections same
  · have taken : RulesNoMore s (takeRequest p one two s) := rulesNoMore_of_sections rfl
    exact taken.trans ((moves p r _).trans (rulesNoMore_of_sections served))

theorem engineStep_sameBlocks {kind : RequestKind} {rule : PortId → Request → State → Reply}
    (h : engineStep kind rule s = .next t) (same : ∀ p r u, SameBlocks u (rule p r u).state) : RulesNoMore s t :=
  engineStep_rulesNoMore h fun p r u => rulesNoMore_of_sections (same p r u).sections

theorem depart_rulesNoMore (d : PointId) (c : PointCfg) (x : Point) (cause : Cause) (tel : Option Telegram)
    (s : State) : RulesNoMore s (depart d c x cause tel s) := fun _ ruled => (depart_ruled d c x cause tel ruled).1

theorem takeDelivery_rulesNoMore (l : LineId) (s : State) : RulesNoMore s (takeDelivery l s) := by
  unfold takeDelivery
  split
  · exact .refl s
  · rename_i del rest _
    have taken : RulesNoMore s (s.setLine l { s.line l with deliveries := rest }) := rulesNoMore_of_sections rfl
    refine taken.trans ?_
    obtain same | ⟨c, x, cause, tel, departs⟩ := supervise_keepsOrDeparts l del _
    · exact rulesNoMore_of_sections same.sections
    · rw [departs]
      exact depart_rulesNoMore _ _ _ _ _ _

theorem pointSilent_rulesNoMore (d : PointId) (s : State) : RulesNoMore s (pointSilent d s) := by
  unfold pointSilent
  dsimp only
  split
  · exact depart_rulesNoMore _ _ _ _ _ _
  · exact rulesNoMore_of_sections (changePoint_only _ _ _ _ _).sections
  · exact rulesNoMore_of_sections (changePoint_only _ _ _ _ _).sections
  all_goals exact .refl s

theorem expireTxn_rulesNoMore (k : SlotId) (s : State) : RulesNoMore s (expireTxn k s) := by
  unfold expireTxn
  split
  · exact rulesNoMore_of_relabels (relabels_endTxn _ _ _ s)
  · exact .refl s

theorem setInhibitRule_rulesNoMore (p : PortId) (r : Request) (s : State) :
    RulesNoMore s (setInhibitRule p r s).state := by
  unfold setInhibitRule
  repeat' split
  case h_2.isFalse.isFalse => exact rulesNoMore_of_relabels (relabels_setInhibitFlag _ _ _ s)
  all_goals exact .refl s

theorem proposeResetRule_rulesNoMore (p : PortId) (r : Request) (s : State) :
    RulesNoMore s (proposeResetRule p r s).state := by
  have opened : ∀ n kind k, RulesNoMore s (openTransaction p n kind k s) := fun n kind k =>
    rulesNoMore_of_relabels (relabels_openTransaction p n kind k s)
  unfold proposeResetRule proposeChecked
  dsimp only
  repeat' split
  all_goals
    first
      | exact .refl s
      | exact opened _ _ _

theorem cancelResetRule_rulesNoMore (p : PortId) (r : Request) (s : State) :
    RulesNoMore s (cancelResetRule p r s).state := by
  unfold cancelResetRule
  repeat' split
  case h_2.isFalse => exact rulesNoMore_of_relabels (relabels_endTxn _ _ _ s)
  all_goals exact .refl s

/-- After any command but CONFIRM_RESET the state logic rules on no more sections. -/
theorem exec_rulesNoMore {c : Instr} (h : exec c s = .next t) (other : c ≠ .confirmReset) : RulesNoMore s t := by
  cases c with
  | confirmReset => exact absurd rfl other
  | resetInputLow =>
    unfold exec execResetInputLow at h
    exact event_rulesNoMore h fun _ => .refl s
  | coldStart low => exact event_rulesNoMore h fun _ => rulesNoMore_of_unruled (coldStart_unruled low s)
  | loadEnd image => exact event_rulesNoMore h fun _ => rulesNoMore_of_unruled (endLoad_unruled image s)
  | warmStart => exact event_rulesNoMore h fun _ => rulesNoMore_of_unruled (restartSent_unruled s)
  | answerSent p =>
    refine event_rulesNoMore h fun _ => ?_
    split
    · exact rulesNoMore_of_unruled (restartSent_unruled s)
    · exact rulesNoMore_of_sections (sendHead_only p s).sections
  | timeBaseMillisecond => exact event_rulesNoMore h fun _ => tick_rulesNoMore s
  | telegramDelivery l => exact event_rulesNoMore h fun _ => takeDelivery_rulesNoMore l s
  | pointSilenceExpiry d => exact event_rulesNoMore h fun _ => pointSilent_rulesNoMore d s
  | handOff span =>
    cases span with
    | whole => exact event_rulesNoMore h fun _ => handOffAll_rulesNoMore s
    | oneStep => exact event_rulesNoMore h fun _ => handOffOnce_rulesNoMore s
  | clearingTimerExpiry n => exact event_rulesNoMore h fun can => cleared_rulesNoMore (by simp_all)
  | confirmWindowExpiry k => exact event_rulesNoMore h fun _ => expireTxn_rulesNoMore k s
  | setInhibit => exact engineStep_rulesNoMore h setInhibitRule_rulesNoMore
  | proposeReset => exact engineStep_rulesNoMore h proposeResetRule_rulesNoMore
  | cancelReset => exact engineStep_rulesNoMore h cancelResetRule_rulesNoMore
  | trkGoodCharacter l b early =>
    exact event_rulesNoMore h fun _ => rulesNoMore_of_sections (lineCharacter_only l b s).sections
  | trkFramingError | trkBreak | trkBreakEnd | trkGapTimeout | lineSilenceExpiry | dwellTimerExpiry | portBreakEnd =>
    dsimp only [exec, execTrkFramingError, execTrkBreak, execTrkBreakEnd, execTrkGapTimeout, execLineSilenceExpiry,
      execDwellTimerExpiry, execPortBreakEnd] at h
    exact event_rulesNoMore h fun _ => rulesNoMore_of_sections rfl
  | portGoodCharacter p b =>
    exact event_rulesNoMore h fun _ => rulesNoMore_of_sections (portCharacter_only p b s).sections
  | rejoin p tag => exact event_rulesNoMore h fun _ => rulesNoMore_of_sections (handleFrame_only _ _ _ s).sections
  | portFramingError p => exact event_rulesNoMore h fun _ => rulesNoMore_of_sections (discardFrame_only p s).sections
  | portGapTimeout p => exact event_rulesNoMore h fun _ => rulesNoMore_of_sections (discardFrame_only p s).sections
  | portBreak p => exact event_rulesNoMore h fun _ => rulesNoMore_of_sections (linkReset_only p s).sections
  | readSection => exact engineStep_sameBlocks h readSectionRule_same
  | readPoint => exact engineStep_sameBlocks h readPointRule_same
  | readLine => exact engineStep_sameBlocks h readLineRule_same
  | selectView => exact engineStep_sameBlocks h selectViewRule_same
  | journalRead => exact engineStep_sameBlocks h journalReadRule_same
  | journalSeek => exact engineStep_sameBlocks h journalSeekRule_same
  | status | summary | readNext | identify | setMask | clearStatistics | restart =>
    exact engineStep_rulesNoMore h fun _ _ _ => rulesNoMore_of_sections rfl

end

/-! ### CONFIRM_RESET -/

/-- Where CONFIRM RESET lets the state logic rule on a section, it has completed the section's reset (R107, R109). -/
theorem confirmResetRule_completes {p : PortId} {r : Request} {s : State} {n : SectionId}
    (before : ¬ (s.sec n).mode.ruled = true) (after : ((confirmResetRule p r s).state.sec n).mode.ruled = true) :
    ∃ k u, s.slot k = some u ∧ u.number = r.byte 0 ∧ u.sec = n ∧ (r.byte 1).toNat = n.val ∧
      u.confirmedBy p = false ∧ ((u.confirm p).byIxa && (u.confirm p).byIxb) = true ∧ CheckPasses s u := by
  have barred : ∀ {v}, RulesNoMore s v → ¬ (v.sec n).mode.ruled = true := fun h ruled => before (h n ruled)
  have added : ∀ k u, Relabels s (addConfirmation p k u s) := fun k u => relabels_addConfirmation p k u s
  cases found : txnOfNumber (r.byte 0) s with
  | none =>
    simp only [confirmResetRule, found] at after
    exact absurd after (barred (.refl s))
  | some entry =>
    obtain ⟨k, u⟩ := entry
    obtain ⟨opened, number⟩ := findTxn_some found
    by_cases right : u.sec.val = (r.byte 1).toNat
    swap
    · rw [confirmResetRule_mismatch found right] at after
      exact absurd after (barred (rulesNoMore_of_relabels (relabels_endTxn _ _ _ s)))
    cases fresh : u.confirmedBy p with
    | true =>
      rw [confirmResetRule_duplicate found right fresh] at after
      exact absurd after (barred (.refl s))
    | false =>
      cases both : (u.confirm p).byIxa && (u.confirm p).byIxb with
      | false =>
        rw [confirmResetRule_half found right fresh both] at after
        exact absurd after (barred (rulesNoMore_of_relabels (added k u)))
      | true =>
        by_cases checked : CheckPasses s u
        · rw [confirmResetRule_completed found right fresh both checked] at after
          have named : u.sec = n := by
            by_contra elsewhere
            have same := completeTxn_sec_ne k (u.confirm p) (addConfirmation p k u s) (n := n)
              (by rw [confirm_sec]; exact Ne.symm elsewhere)
            simp only [okay, same] at after
            exact barred (rulesNoMore_of_relabels (added k u)) after
          exact ⟨k, u, opened, by simpa using number, named, named ▸ right.symm, fresh, both, checked⟩
        · rw [confirmResetRule_notReady found right fresh both checked] at after
          exact absurd after (barred (rulesNoMore_of_relabels ((added k u).trans (relabels_endTxn _ _ _ _))))

theorem channel_of_permitted {p : PortId} (h : permitted p .confirmReset = true) : p = .ixa ∨ p = .ixb := by
  cases p with
  | ixa => exact .inl rfl
  | ixb => exact .inr rfl
  | mnt | recorder => exact nomatch h

/-- Settles O34: no command but CONFIRM_RESET lets the state logic rule on a section, and that one only by a
completion. -/
theorem leavesDisturbedOnlyByBothChannels : Obligations.LeavesDisturbedOnlyByBothChannels := by
  unfold Obligations.LeavesDisturbedOnlyByBothChannels
  intro c s t n h disturbed left used
  have after : (t.sec n).mode.ruled = true := (ruled_iff _).mpr ⟨left, used⟩
  have before : ¬ (s.sec n).mode.ruled = true := fun ruled => ((ruled_iff _).mp ruled).1 disturbed
  have confirms : c = .confirmReset := by_contra fun other => before (exec_rulesNoMore h other n after)
  subst confirms
  obtain same | ⟨p, r, queue, one, two, takes, kind, right, served⟩ := engineStep_sections h
  · exact absurd (rulesNoMore_of_sections same n after) before
  · have completes := rulesNoMore_of_sections served n after
    obtain ⟨k, u, opened, number, named, byte, fresh, both, checked⟩ :=
      confirmResetRule_completes (s := takeRequest p one two s) before completes
    refine ⟨rfl, p, r, queue, one, two, k, u, takes, kind, opened, number, named, byte, ?_,
      (checkPasses_takeRequest one two).mp checked⟩
    obtain rfl | rfl := channel_of_permitted right
    · exact .inl ⟨rfl, (bothConfirmed_eq (.inl rfl) u).symm.trans both⟩
    · exact .inr ⟨rfl, (bothConfirmed_eq (.inr rfl) u).symm.trans both⟩

end Sys2Proof.Proofs
end

section
/-! Proofs: the state of a section after an application and after its clearing time (R79 to R83, R86 to R89). -/

namespace Sys2Proof.Proofs

open Sys2Proof.Machine Sys2Proof.Safety Sys2Proof.Claims

/-! ### An application, by its result (R66 to R68) -/

section
variable {x : Section} {ins outs : Nat} {passage : Bool}

/-- After a result in range the state logic rules on the new net and the new passage flag (R80). -/
theorem appliedSection_inRange (low : 0 ≤ resultOf x ins outs) (high : resultOf x ins outs ≤ 2047) :
    (appliedSection x ins outs passage).mode =
        ruleState x.mode x.clearDelay (appliedSection x ins outs passage).net
          (appliedSection x ins outs passage).passage ins ∧
      (appliedSection x ins outs passage).repeatCount = x.repeatCount := by
  have small : ¬ (maxNet : Int) < resultOf x ins outs := not_lt.mpr high
  unfold appliedSection
  dsimp only
  rw [if_neg (not_lt.mpr low), if_neg small]
  exact ⟨rfl, rfl⟩

theorem appliedSection_negative (negative : resultOf x ins outs < 0) :
    appliedSection x ins outs passage = disturbed .negative (countedSection x ins outs passage) := if_pos negative

theorem appliedSection_overflow (large : 2047 < resultOf x ins outs) :
    appliedSection x ins outs passage = disturbed .overflow (countedSection x ins outs passage) :=
  (if_neg (by omega)).trans (if_pos large)

/-- In DISTURBED a disturbance keeps the cause and counts a repeat (R88, R89). -/
theorem disturbed_again {q : Cause} (mode : x.mode = .disturbed q) (c : Cause) :
    (disturbed c x).mode = .disturbed q ∧ (disturbed c x).repeatCount = min 255 (x.repeatCount + 1) := by
  unfold disturbed
  rw [mode]
  exact ⟨rfl, rfl⟩

/-- In the other states of a used section it sets the cause and counts afresh (R88). -/
theorem disturbed_first (used : x.mode ≠ .unused) (first : ∀ q, x.mode ≠ .disturbed q) (c : Cause) :
    (disturbed c x).mode = .disturbed c ∧ (disturbed c x).repeatCount = 0 := by
  unfold disturbed
  split
  case h_1 mode => exact absurd mode used
  case h_2 q mode => exact absurd mode (first q)
  all_goals exact ⟨rfl, rfl⟩

/-- In DISTURBED a result out of range counts a repeat, whichever end it passes (R67, R68, R89). -/
theorem appliedSection_again {q : Cause} (mode : x.mode = .disturbed q)
    (out : ¬ (0 ≤ resultOf x ins outs ∧ resultOf x ins outs ≤ 2047)) :
    (appliedSection x ins outs passage).mode = .disturbed q ∧
      (appliedSection x ins outs passage).repeatCount = min 255 (x.repeatCount + 1) := by
  have again : ∀ c, (disturbed c (countedSection x ins outs passage)).mode = .disturbed q ∧
      (disturbed c (countedSection x ins outs passage)).repeatCount = min 255 (x.repeatCount + 1) :=
    disturbed_again (x := countedSection x ins outs passage) mode
  by_cases negative : resultOf x ins outs < 0
  · rw [appliedSection_negative negative]
    exact again _
  · rw [appliedSection_overflow (by omega)]
    exact again _

end

/-- Where the state logic looks at vacancy (R81), it gives a vacant section one state and another section the other. -/
theorem vacancy_decides {net : Nat} {passage : Bool} {m vacantMode otherMode : SectionMode}
    (h : m = if (net == 0 && !passage) = true then vacantMode else otherMode) :
    (net = 0 ∧ passage = false → m = vacantMode) ∧ (¬ (net = 0 ∧ passage = false) → m = otherMode) := by
  have vacant : (net == 0 && !passage) = true ↔ net = 0 ∧ passage = false := by simp
  rw [h]
  exact ⟨fun v => if_pos (vacant.mpr v), fun v => if_neg (vacant.not.mpr v)⟩

/-- An application to a used section writes its STATE record where the state changes by name (R79). -/
theorem applySection_eq {n : SectionId} {s : State} (used : (s.sec n).mode ≠ .unused) (ins outs : Nat) :
    applySection n ins outs s =
      putSection n (s.sec n).mode (appliedSection (s.sec n) ins outs (passageOf (s.sec n) s)) s := if_neg used

/-- Settles O27: in range the state logic rules by the state before, out of range the section is disturbed. -/
theorem sectionStateLogic : Obligations.SectionStateLogic := by
  unfold Obligations.SectionStateLogic
  intro s n ins outs c cfg used x t y result inRange vacant ended
  have applied : y = appliedSection x ins outs (passageOf x s) := applySection_sec_same used ins outs
  have delay : x.clearDelay = c.clearDelay := by rw [Section.clearDelay, cfg]; rfl
  have rules : ∀ {m}, inRange → x.mode = m → y.mode = ruleState m c.clearDelay y.net y.passage ins := by
    rintro m ⟨low, high⟩ rfl
    rw [applied, ← delay]
    exact (appliedSection_inRange low high).1
  refine ⟨fun range mode => vacancy_decides (rules range mode), fun range mode => vacancy_decides (rules range mode),
    fun r range mode => vacancy_decides (rules range mode), fun range mode noneIn => ?keptPrepared,
    fun range mode someIn => vacancy_decides ?leftPrepared, fun range mode => vacancy_decides (rules range mode),
    fun range => ?repeats, fun q mode => ?stays, fun q mode out => ?counts, fun first negative => ?negative,
    fun first large => ?overflow, ?record⟩
  case keptPrepared => exact (rules range mode).trans (if_pos noneIn)
  case leftPrepared => exact (rules range mode).trans (if_neg someIn)
  case repeats =>
    obtain ⟨low, high⟩ := range
    rw [applied]
    exact (appliedSection_inRange low high).2
  case stays =>
    by_cases range : inRange
    · exact rules range mode
    · rw [applied]
      exact (appliedSection_again mode range).1
  case counts =>
    rw [applied]
    exact (appliedSection_again mode out).2
  case negative =>
    rw [applied, appliedSection_negative negative]
    exact disturbed_first (x := countedSection x ins outs (passageOf x s)) used first _
  case overflow =>
    rw [applied, appliedSection_overflow large]
    exact disturbed_first (x := countedSection x ins outs (passageOf x s)) used first _
  case record =>
    rw [applied]
    exact applySection_eq used ins outs

/-! ### The clearing time (R83) -/

/-- Settles O29: CLEARING and CLEAR differ by name, so the event writes its STATE record. -/
theorem clearingTimerExpires : Obligations.ClearingTimerExpires := by
  unfold Obligations.ClearingTimerExpires
  intro s n service due
  refine settled_event ?_ ?_
  · simp [(inService_iff s).mpr service, due]
  · rw [due]
    rfl

end Sys2Proof.Proofs
end

section
/-! Proofs: PROPOSE RESET (R103 to R106), CANCEL RESET and the confirm window (R111 to R114), and the activity report
(R117). -/

namespace Sys2Proof.Proofs

open Sys2Proof.Machine Sys2Proof.Safety Sys2Proof.Claims

/-! ### A request answered after its effect -/

section
variable {s : State} {p : PortId} {r : Request} {queue : List Request} {one : RingOne} {two : RingTwo}
  {rule : PortId → Request → State → Reply} {result : ResultCode} {payload : List Byte} {f : State → State}

/-- The command of a request in RUNNING whose rule has an effect and a result. -/
theorem engineStep_answered (takes : Takes s p r queue one two) (running : s.part = .running)
    (right : permitted p r.kind = true) (other : r.kind ≠ .restart) (unlinked : Unlinked f)
    (reply : rule p r (takeRequest p one two s) = ⟨f (takeRequest p one two s), result, payload⟩) :
    ∃ t, engineStep r.kind rule s = .next t ∧ Settled t (Answered (f s) p r queue one two result payload) :=
  ⟨_, engineStep_of_takes takes rule, serve_settled takes running right other unlinked reply⟩

/-- REC alone may not propose a reset (R104). -/
theorem exec_proposeReset_answered (takes : Takes s p r queue one two) (kind : r.kind = .proposeReset)
    (port : p ≠ .recorder) (running : s.part = .running) (unlinked : Unlinked f)
    (reply : proposeResetRule p r (takeRequest p one two s) = ⟨f (takeRequest p one two s), result, payload⟩) :
    ∃ t, exec .proposeReset s = .next t ∧ Settled t (Answered (f s) p r queue one two result payload) := by
  have right : permitted p r.kind = true := by rw [kind]; exact bne_iff_ne.mpr port
  have answered := engineStep_answered takes running right (by rw [kind]; decide) unlinked reply
  rwa [kind] at answered

end

/-! ### The number given to a transaction (R103) -/

theorem repeat_nextNumber (m : Nat) (c : Byte) :
    Nat.repeat nextNumber m (nextNumber c) = Nat.repeat nextNumber (m + 1) c := by
  induction m with
  | zero => rfl
  | succ m ih => exact congrArg nextNumber ih

/-- The counter is advanced as often as `fuel` allows, and only past numbers of open transactions. -/
theorem givenNumber_advances (fuel : Nat) (c : Byte) (s : State) :
    ∃ m, m ≤ fuel ∧ givenNumber fuel c s = Nat.repeat nextNumber m c ∧
      ∀ i, i < m → numberOpen (Nat.repeat nextNumber i c) s = true := by
  induction fuel generalizing c with
  | zero => exact ⟨0, Nat.le_refl 0, rfl, fun i hi => absurd hi (Nat.not_lt_zero i)⟩
  | succ fuel ih =>
    by_cases taken : numberOpen c s = true
    · obtain ⟨m, bound, given, passed⟩ := ih (nextNumber c)
      refine ⟨m + 1, Nat.succ_le_succ bound, ?_, fun i hi => ?_⟩
      · rw [givenNumber, if_pos taken, given, repeat_nextNumber]
      · cases i with
        | zero => exact taken
        | succ i =>
          rw [← repeat_nextNumber]
          exact passed i (Nat.lt_of_succ_lt_succ hi)
    · exact ⟨0, Nat.zero_le _, if_neg taken, fun i hi => absurd hi (Nat.not_lt_zero i)⟩

/-- Fewer than four OPEN slots leave one FREE. -/
theorem exists_freeSlot {s : State} (h : openSlots s < 4) : ∃ k, freeSlot s = some k := by
  refine Option.ne_none_iff_exists'.mp fun none => ?_
  have all : ∀ k ∈ allSlots, (s.slot k).isSome = true := fun k hk => by
    simpa [← Option.ne_none_iff_isSome] using List.find?_eq_none.mp none k hk
  rw [openSlots, List.filter_eq_self.mpr all] at h
  exact absurd h (by decide)

theorem openTransaction_unlinked (p : PortId) (n : SectionId) (kind : ResetKind) (k : SlotId) :
    Unlinked (openTransaction p n kind k) := by
  refine ⟨fun _ => rfl, fun ports one two s => ?_⟩
  have given : givenNumber 3 (withLinks ports one two s).txnCounter (withLinks ports one two s) =
      givenNumber 3 s.txnCounter s := rfl
  unfold openTransaction
  rw [given]
  rfl

/-! ### The checks of PROPOSE RESET (R105) -/

section
variable {p : PortId} {n : SectionId} {kind : ResetKind} {r : Request} {s : State}

theorem resetKindOfByte_none (first : r.byte 1 ≠ 1) (second : r.byte 1 ≠ 2) :
    resetKindOfByte (r.byte 1) = none := by
  rw [resetKindOfByte, if_neg first, if_neg second]

theorem resetKindOfByte_of_code (code : r.byte 1 = if kind = .preparatory then 1 else 2) :
    resetKindOfByte (r.byte 1) = some kind := by
  rw [code]
  cases kind <;> rfl

/-- Check 1 of R105. -/
theorem proposeResetRule_range (h : 24 ≤ (r.byte 0).toNat ∨ (r.byte 1 ≠ 1 ∧ r.byte 1 ≠ 2)) :
    proposeResetRule p r s = refuse .range s := by
  unfold proposeResetRule
  split
  · rename_i n kind named coded
    obtain beyond | ⟨first, second⟩ := h
    · have none : sectionOfByte (r.byte 0) = .none := numbered_of_le beyond
      exact nomatch none.symm.trans named
    · exact nomatch (resetKindOfByte_none first second).symm.trans coded
  · rfl
  · rfl

theorem proposeResetRule_in_range (named : (r.byte 0).toNat = n.val)
    (code : r.byte 1 = if kind = .preparatory then 1 else 2) :
    proposeResetRule p r s = proposeChecked p n kind s := by
  simp only [proposeResetRule, sectionOfByte_of_val named.symm, resetKindOfByte_of_code code]

/-! The model's form of each check fails where the check of R105 passes. -/

theorem permits_check (x : Section) (kind : ResetKind) :
    ¬ (x.mode = .unused ∨ x.permits kind = false) ↔ x.mode ≠ .unused ∧ x.permits kind = true := by
  rw [not_or, Bool.not_eq_false]

theorem proposer_check (kind : ResetKind) (p : PortId) :
    ¬ (kind = .direct ∧ p ≠ .mnt) ↔ kind = .preparatory ∨ p = .mnt := by
  cases kind <;> simp

theorem disturbed_check (x : Section) : ¬ x.isDisturbed = false ↔ x.mode.name = .disturbed := by
  rw [Bool.not_eq_false, Section.isDisturbed, beq_iff_eq]

theorem inhibit_check (s : State) (n : SectionId) :
    ¬ ((s.sec n).inhibitA = true ∨ (s.sec n).inhibitB = true) ↔ Uninhibited s n := by
  simp only [Uninhibited, not_or, Bool.not_eq_true]

theorem inSync_check (s : State) (n : SectionId) : ¬ allInSync (s.sec n) s = false ↔ BoundaryInSync s n := by
  simp only [allInSync, BoundaryInSync, Bool.not_eq_false, List.all_eq_true, beq_iff_eq]

theorem heads_check (s : State) (n : SectionId) (kind : ResetKind) :
    ¬ (kind = .direct ∧ allHeadsFree (s.sec n) s = false) ↔ (kind = .direct → BoundaryFree s n) := by
  rw [not_and, Bool.not_eq_false, boundaryFree_iff]

/-! The rows of R105 from check 2 on: each is reached where those before it pass. -/

theorem proposeChecked_not_permitted (failed : ¬ ((s.sec n).mode ≠ .unused ∧ (s.sec n).permits kind = true)) :
    proposeChecked p n kind s = refuse .notPermitted s :=
  if_pos (not_not.mp ((permits_check _ _).not.mpr failed))

variable (permits : (s.sec n).mode ≠ .unused ∧ (s.sec n).permits kind = true)
include permits

theorem proposeChecked_wrong_proposer (failed : ¬ (kind = .preparatory ∨ p = .mnt)) :
    proposeChecked p n kind s = refuse .notPermitted s := by
  simp only [proposeChecked, if_neg ((permits_check _ _).mpr permits),
    if_pos (not_not.mp ((proposer_check _ _).not.mpr failed))]

variable (proposer : kind = .preparatory ∨ p = .mnt)
include proposer

theorem proposeChecked_not_needed (failed : (s.sec n).mode.name ≠ .disturbed) :
    proposeChecked p n kind s = refuse .notNeeded s := by
  simp only [proposeChecked, if_neg ((permits_check _ _).mpr permits), if_neg ((proposer_check _ _).mpr proposer),
    if_pos (not_not.mp ((disturbed_check _).not.mpr failed))]

variable (disturbed : (s.sec n).mode.name = .disturbed)
include disturbed

theorem proposeChecked_inhibited (failed : ¬ Uninhibited s n) :
    proposeChecked p n kind s = refuse .inhibited s := by
  simp only [proposeChecked, if_neg ((permits_check _ _).mpr permits), if_neg ((proposer_check _ _).mpr proposer),
    if_neg ((disturbed_check _).mpr disturbed), if_pos (not_not.mp ((inhibit_check _ _).not.mpr failed))]

variable (uninhibited : Uninhibited s n)
include uninhibited

theorem proposeChecked_duplicate {k : SlotId} {u : Txn} (found : txnOfSection n s = some (k, u)) :
    proposeChecked p n kind s = ⟨s, .duplicate, [u.number]⟩ := by
  simp only [proposeChecked, if_neg ((permits_check _ _).mpr permits), if_neg ((proposer_check _ _).mpr proposer),
    if_neg ((disturbed_check _).mpr disturbed), if_neg ((inhibit_check _ _).mpr uninhibited), found]

variable (alone : ∀ k u, s.slot k = some u → u.sec ≠ n)
include alone

/-- Checks 7 to 9, and the opening. -/
theorem proposeChecked_alone :
    proposeChecked p n kind s =
      if allInSync (s.sec n) s = false then refuse .notReady s
      else if kind = .direct ∧ allHeadsFree (s.sec n) s = false then refuse .notReady s
      else if s.commitLimit ≤ openSlots s then refuse .tableFull s
      else (freeSlot s).elim (refuse .tableFull s)
        fun slot => okay [givenNumber 3 s.txnCounter s] (openTransaction p n kind slot s) := by
  have found : txnOfSection n s = none := findTxn_none.mpr fun k u opened => by simpa using alone k u opened
  simp only [proposeChecked, if_neg ((permits_check _ _).mpr permits), if_neg ((proposer_check _ _).mpr proposer),
    if_neg ((disturbed_check _).mpr disturbed), if_neg ((inhibit_check _ _).mpr uninhibited), found]
  cases freeSlot s <;> rfl

theorem proposeChecked_out_of_sync (failed : ¬ BoundaryInSync s n) :
    proposeChecked p n kind s = refuse .notReady s :=
  (proposeChecked_alone permits proposer disturbed uninhibited alone).trans
    (if_pos (not_not.mp ((inSync_check _ _).not.mpr failed)))

variable (inSync : BoundaryInSync s n)
include inSync

theorem proposeChecked_head_damped (failed : ¬ (kind = .direct → BoundaryFree s n)) :
    proposeChecked p n kind s = refuse .notReady s := by
  rw [proposeChecked_alone permits proposer disturbed uninhibited alone, if_neg ((inSync_check _ _).mpr inSync),
    if_pos (not_not.mp ((heads_check _ _ _).not.mpr failed))]

variable (heads : kind = .direct → BoundaryFree s n)
include heads

theorem proposeChecked_table_full (failed : ¬ openSlots s < s.commitLimit) :
    proposeChecked p n kind s = refuse .tableFull s := by
  rw [proposeChecked_alone permits proposer disturbed uninhibited alone, if_neg ((inSync_check _ _).mpr inSync),
    if_neg ((heads_check _ _ _).mpr heads), if_pos (Nat.not_lt.mp failed)]

theorem proposeChecked_opens {k : SlotId} (room : openSlots s < s.commitLimit) (free : freeSlot s = some k) :
    proposeChecked p n kind s = okay [givenNumber 3 s.txnCounter s] (openTransaction p n kind k s) := by
  rw [proposeChecked_alone permits proposer disturbed uninhibited alone, if_neg ((inSync_check _ _).mpr inSync),
    if_neg ((heads_check _ _ _).mpr heads), if_neg (Nat.not_le.mpr room), free, Option.elim_some]

end

/-- Settles O32: each check of R105 is one row of the rule, and a refusal has no effect. -/
theorem proposalRefused : Obligations.ProposalRefused := by
  unfold Obligations.ProposalRefused
  intro s p r queue one two takes asked port running sound refused
  have answered : ∀ {result : ResultCode} {payload : List Byte},
      proposeResetRule p r (takeRequest p one two s) = ⟨takeRequest p one two s, result, payload⟩ →
      refused result payload := exec_proposeReset_answered takes asked port running .skip
  refine ⟨fun bad => answered (proposeResetRule_range bad), fun n kind named code => ?_⟩
  have checked : ∀ {result : ResultCode} {payload : List Byte},
      proposeChecked p n kind (takeRequest p one two s) = ⟨takeRequest p one two s, result, payload⟩ →
      refused result payload := fun reply => answered ((proposeResetRule_in_range named code).trans reply)
  intro c2 c3 c4 c5 c6 c7 c8 c9
  refine ⟨fun failed => checked (proposeChecked_not_permitted failed),
    fun h2 failed => checked (proposeChecked_wrong_proposer h2 failed),
    fun h2 h3 failed => checked (proposeChecked_not_needed h2 h3 failed),
    fun h2 h3 h4 failed => checked (proposeChecked_inhibited h2 h3 h4 failed),
    fun k u h2 h3 h4 h5 opened same => ?duplicate,
    fun h2 h3 h4 h5 h6 failed => checked (proposeChecked_out_of_sync h2 h3 h4 h5 h6 failed),
    fun h2 h3 h4 h5 h6 h7 failed => checked (proposeChecked_head_damped h2 h3 h4 h5 h6 h7 failed),
    fun h2 h3 h4 h5 h6 h7 h8 failed => checked (proposeChecked_table_full h2 h3 h4 h5 h6 h7 h8 failed)⟩
  case duplicate =>
    have found : txnOfSection n s = some (k, u) := findTxn_unique opened (beq_iff_eq.mpr same)
      fun j v other named => sound.one_section j k v u other opened ((beq_iff_eq.mp named).trans same.symm)
    exact checked (proposeChecked_duplicate (s := takeRequest p one two s) h2 h3 h4 h5 found)

/-- Settles O31: the last row of R105 opens the lowest FREE slot with the number that the counter reaches. -/
theorem proposalOpens : Obligations.ProposalOpens := by
  unfold Obligations.ProposalOpens
  intro s p r queue one two n kind takes asked port running named code permits direct disturbed uninhibited alone inSync
    heads room limit
  obtain ⟨k, free⟩ := exists_freeSlot (room.trans_le limit)
  obtain ⟨m, bound, given, passed⟩ := givenNumber_advances 3 s.txnCounter s
  have used : (s.sec n).mode ≠ .unused := fun unused => by simp [unused, SectionMode.name] at disturbed
  have proposer : kind = .preparatory ∨ p = .mnt := (proposer_check _ _).mp fun ⟨hd, hp⟩ => hp (direct hd)
  have reply := proposeChecked_opens (s := takeRequest p one two s) ⟨used, permits⟩ proposer disturbed uninhibited
    alone inSync heads room free
  obtain ⟨t, step, settled⟩ := exec_proposeReset_answered takes asked port running
    (openTransaction_unlinked p n kind k) ((proposeResetRule_in_range named code).trans reply)
  refine ⟨t, k, m, givenNumber 3 s.txnCounter s, step, freeSlot_free free, bound, given,
    fun i hi => (numberOpen_iff _ s).mp (passed i hi), fun j u opened same => ?_, settled⟩
  have isOpen := (numberOpen_iff _ s).mpr ⟨j, u, opened, same⟩
  exact nomatch (givenNumber_not_open (freeSlot_free free) s.txnCounter).symm.trans isOpen

/-! ### CANCEL RESET and the window (R112, R114) -/

section
variable {p : PortId} {r : Request} {s : State} {k : SlotId} {u : Txn}

theorem cancelResetRule_unknown (none : ∀ k u, s.slot k = some u → u.number ≠ r.byte 0) :
    cancelResetRule p r s = refuse .unknownTxn s := by
  have found : txnOfNumber (r.byte 0) s = .none := findTxn_none.mpr fun k u opened => by simpa using none k u opened
  simp only [cancelResetRule, found]

theorem cancelResetRule_found (found : txnOfNumber (r.byte 0) s = some (k, u)) :
    cancelResetRule p r s =
      if p = .mnt ∧ u.proposer ≠ .mnt then refuse .notPermitted s
      else okay [] (endTxn (.cancelled .requested) k u s) := by
  simp only [cancelResetRule, found]

end

/-- Settles O35: the three rows of R112, and the expiry of R114; each ending is one `endTxn`. -/
theorem transactionEndings : Obligations.TransactionEndings := by
  unfold Obligations.TransactionEndings
  refine ⟨fun s p r queue one two takes kind port running sound => ?request,
    fun s k u service opened due => ?expiry⟩
  case request =>
    have right : permitted p r.kind = true := by rw [kind]; exact bne_iff_ne.mpr port
    have step := engineStep_of_takes takes cancelResetRule
    rw [kind] at step
    have settled : ∀ {f : State → State} {result : ResultCode} {payload : List Byte}, Unlinked f →
        cancelResetRule p r (takeRequest p one two s) = ⟨f (takeRequest p one two s), result, payload⟩ →
        Settled (settle (serve cancelResetRule p r (takeRequest p one two s)))
          (Answered (f s) p r queue one two result payload) :=
      serve_settled takes running right (by rw [kind]; decide)
    refine ⟨fun none => ⟨_, step, settled .skip (cancelResetRule_unknown none)⟩, fun k u opened number => ?_⟩
    have row := cancelResetRule_found (p := p) (s := takeRequest p one two s)
      (txnOfNumber_of_open (s := s) sound opened number)
    refine ⟨_, step, fun mnt other => settled .skip (row.trans (if_pos ⟨mnt, other⟩)),
      fun own => ⟨_, endTxn_ended _, settled (endTxn_unlinked _ k u) (row.trans (if_neg ?_))⟩⟩
    exact fun ⟨mnt, other⟩ => own.elim (· mnt) other
  case expiry =>
    have can : (s.inService && windowDue k s) = true := by
      rw [(inService_iff s).mpr service, windowDue, opened]
      exact beq_iff_eq.mpr due
    have effect : expireTxn k s = endTxn .expired k u s := by rw [expireTxn, opened]
    obtain ⟨t, step, settled⟩ := settled_event can effect
    exact ⟨t, _, step, endTxn_ended _, settled⟩

/-! ### The activity report (R117) -/

/-- A cancellation ends an open transaction for the section that meets the condition, or finds none and does nothing. -/
theorem cancelFor_cases (reason : CancelReason) (q : Txn → Bool) (n : SectionId) (s : State) :
    (∃ k u, s.slot k = some u ∧ u.sec = n ∧ q u = true ∧
        cancelFor reason q n s = endTxn (.cancelled reason) k u s) ∨
      (∀ k u, s.slot k = some u → u.sec = n → q u = false) ∧ cancelFor reason q n s = s := by
  unfold cancelFor
  cases found : findTxn (fun u => u.sec == n && q u) s with
  | none =>
    refine .inr ⟨fun k u opened same => ?_, rfl⟩
    simpa [same] using findTxn_none.mp found k u opened
  | some entry =>
    obtain ⟨k, u⟩ := entry
    obtain ⟨opened, meets⟩ := findTxn_some found
    obtain ⟨same, chosen⟩ := Bool.and_eq_true_iff.mp meets
    exact .inl ⟨k, u, opened, beq_iff_eq.mp same, chosen, rfl⟩

section
variable {s : State} (hs : TxnSound s) (reason : CancelReason) (q : Txn → Bool)
include hs

/-- After a cancellation the slots hold the transactions that were open and were not for the section, or did not meet
the condition. -/
theorem cancelFor_slot_iff (n : SectionId) (k : SlotId) (u : Txn) :
    (cancelFor reason q n s).slot k = some u ↔ s.slot k = some u ∧ ¬ (q u = true ∧ u.sec = n) := by
  obtain ⟨j, v, opened, rfl, chosen, ended⟩ | ⟨none, same⟩ := cancelFor_cases reason q n s
  · obtain ⟨-, freed, slots, -⟩ := endTxn_spec (.cancelled reason) j v s
    rw [ended]
    by_cases hk : k = j
    · subst hk
      rw [freed, opened]
      refine ⟨(nomatch ·), fun ⟨h, kept⟩ => ?_⟩
      obtain rfl := Option.some.inj h
      exact absurd ⟨chosen, rfl⟩ kept
    · rw [slots k hk]
      exact ⟨fun h => ⟨h, fun ⟨_, same⟩ => hk (hs.one_section k j u v h opened same)⟩, fun h => h.1⟩
  · rw [same]
    refine ⟨fun h => ⟨h, fun ⟨chosen, named⟩ => ?_⟩, fun h => h.1⟩
    exact nomatch (none k u h named).symm.trans chosen

theorem cancelForEach_slot_iff (ns : List SectionId) (k : SlotId) (u : Txn) :
    (ns.foldl (fun v n => cancelFor reason q n v) s).slot k = some u ↔
      s.slot k = some u ∧ ¬ (q u = true ∧ u.sec ∈ ns) := by
  induction ns generalizing s with
  | nil => simp
  | cons n ns ih =>
    rw [List.foldl_cons, ih (cancelFor_sound hs reason q n), cancelFor_slot_iff hs, List.mem_cons, and_assoc]
    tauto

/-- One cancellation ends the open transaction of its section, where it meets the condition, and leaves those of the
other sections open. -/
theorem cancelFor_endedInTurn_filter (n : SectionId) :
    EndedInTurn (.cancelled reason) ((openFor s n).filter q) s (cancelFor reason q n s) ∧
      ∀ m, m ≠ n → openFor (cancelFor reason q n s) m = openFor s m := by
  obtain ⟨k, u, opened, rfl, chosen, ended⟩ | ⟨none, same⟩ := cancelFor_cases reason q n s
  · rw [ended, openFor_of_open hs opened, List.filter_singleton, chosen]
    exact ⟨⟨k, _, opened, endTxn_ended _, rfl⟩, fun m hm => openFor_endTxn opened _ hm⟩
  · have nothing : (openFor s n).filter q = [] := by
      simp only [openFor, List.filter_eq_nil_iff, List.mem_filter, List.mem_filterMap]
      rintro u ⟨⟨k, -, opened⟩, named⟩
      rw [none k u opened (beq_iff_eq.mp named)]
      exact Bool.false_ne_true
    rw [nothing, same]
    exact ⟨rfl, fun _ _ => rfl⟩

/-- Cancellations for distinct sections end the open transactions that meet the condition, in the order of the
sections. -/
theorem cancelForEach_endedInTurn_filter {ns : List SectionId} (nodup : ns.Nodup) :
    EndedInTurn (.cancelled reason) ((ns.flatMap (openFor s)).filter q) s
      (ns.foldl (fun v n => cancelFor reason q n v) s) := by
  induction ns generalizing s with
  | nil => exact rfl
  | cons n ns ih =>
    obtain ⟨fresh, nodup⟩ := List.nodup_cons.mp nodup
    obtain ⟨now, others⟩ := cancelFor_endedInTurn_filter hs reason q n
    have rest := ih (cancelFor_sound hs reason q n) nodup
    have same : ns.flatMap (openFor (cancelFor reason q n s)) = ns.flatMap (openFor s) :=
      List.flatMap_congr fun m hm => others m fun e => fresh (e ▸ hm)
    rw [same] at rest
    rw [List.flatMap_cons, List.filter_append]
    exact endedInTurn_append now rest

end

theorem cancelForEach_of_none {reason : CancelReason} {q : Txn → Bool} {ns : List SectionId} {s : State}
    (none : ∀ k u, s.slot k = some u → ¬ (q u = true ∧ u.sec ∈ ns)) :
    ns.foldl (fun v n => cancelFor reason q n v) s = s := by
  refine List.foldlRecOn (motive := fun v => v = s) ns _ rfl fun v same n named => ?_
  rw [same]
  refine cancelFor_of_none fun k u opened here => Bool.not_eq_true _ ▸ fun chosen => ?_
  exact none k u opened ⟨chosen, here ▸ named⟩

/-- Settles O25: the report is one cancellation of DIRECT transactions after the other. -/
theorem activityReport : Obligations.ActivityReport := by
  unfold Obligations.ActivityReport
  intro s secs sound t
  have direct : ∀ u : Txn, (u.kind == .direct) = true ↔ u.kind = .direct := fun u => beq_iff_eq
  refine ⟨fun k u => ?slots, fun k u opened kind alone => ?single,
    fun nodup => cancelForEach_endedInTurn_filter sound .activity _ nodup,
    fun none => cancelForEach_of_none fun k u opened => ?nothing⟩
  case slots =>
    rw [← direct]
    exact cancelForEach_slot_iff sound .activity _ secs k u
  case single =>
    have ended : t = endTxn (.cancelled .activity) k u s := by
      subst alone
      exact cancelFor_of_open opened ((direct u).mpr kind) fun j v other same =>
        sound.one_section j k v u other opened same
    rw [ended]
    exact endTxn_ended _
  case nothing =>
    rw [direct]
    exact none k u opened

end Sys2Proof.Proofs
end

section
/-! Proofs: what the commands can do to the journal and to the ports' reading state (chapter 7). One inversion lemma for
all commands, `exec_journal`: records are appended one by one, or the journal is only read. -/

namespace Sys2Proof.Proofs

open Sys2Proof.Machine Sys2Proof.Safety Sys2Proof.Claims

/-! ### Runs of appends -/

/-- The journal is as it was; no port has more unread than before, or than are held (R138), and no slip count rose. -/
structure ReadsOnly (s t : State) : Prop where
  journal : t.journal = s.journal
  unread_le : ∀ p, t.unread p ≤ max (s.unread p) s.journal.held
  slip_le : ∀ p, (t.watch p).slipCount ≤ (s.watch p).slipCount

/-- One append (R129), or a change within one count of the Time Base that only reads the journal. -/
inductive JournalStep (s : State) : State → Prop where
  | appended (b : RecordBody) : JournalStep s (append b s)
  | quiet {t : State} (time : t.time = s.time) (reads : ReadsOnly s t) : JournalStep s t

/-- Any number of appends, with changes that only read the journal between them. -/
abbrev JournalRun (s t : State) : Prop := Relation.ReflTransGen JournalStep s t

section
variable {s t u : State}

theorem readsOnly_of_watches (journal : t.journal = s.journal) (cursor : ∀ p, (t.watch p).cursor = (s.watch p).cursor)
    (slip : ∀ p, (t.watch p).slipCount = (s.watch p).slipCount) : ReadsOnly s t where
  journal := journal
  unread_le p := by simp [State.unread, unread, journal, cursor]
  slip_le p := (slip p).le

/-- A change at one port that leaves its unread count, or as many as are held, and raises no slip count. -/
theorem readsOnly_setWatch {p : PortId} {x : Watch}
    (unread_le : unread s.journal.writeSeq x ≤ max (s.unread p) s.journal.held)
    (slip_le : x.slipCount ≤ (s.watch p).slipCount) : ReadsOnly s (s.setWatch p x) where
  journal := rfl
  unread_le q := by
    by_cases h : q = p
    · subst h
      simpa [State.unread] using unread_le
    · simp [State.unread, State.setWatch_ne _ _ _ _ h]
  slip_le q := by
    by_cases h : q = p
    · subst h
      simpa using slip_le
    · rw [State.setWatch_ne _ _ _ _ h]

namespace JournalRun

theorem after (g : JournalRun t u) (h : JournalRun s t) : JournalRun s u := Relation.ReflTransGen.trans h g

theorem append (b : RecordBody) (h : JournalRun s t) : JournalRun s (append b t) := h.tail (.appended b)

theorem reads (h : JournalRun s t) (time : u.time = t.time) (reads : ReadsOnly t u) : JournalRun s u :=
  h.tail (.quiet time reads)

theorem same (time : t.time = s.time) (journal : t.journal = s.journal) (watches : t.watches = s.watches) :
    JournalRun s t :=
  reads .refl time <| readsOnly_of_watches journal (fun p => by rw [State.watch, watches, State.watch])
    fun p => by rw [State.watch, watches, State.watch]

theorem watch {p : PortId} {x : Watch} (cursor : x.cursor = (s.watch p).cursor)
    (slip : x.slipCount = (s.watch p).slipCount) : JournalRun s (s.setWatch p x) :=
  reads .refl rfl <| readsOnly_setWatch (by simp [State.unread, unread, cursor]) slip.le

theorem foldl {α : Type} {f : State → α → State} (hf : ∀ s a, JournalRun s (f s a)) (as : List α) (s : State) :
    JournalRun s (as.foldl f s) :=
  foldl_only (R := JournalRun) (fun _ => .refl) (fun h g => g.after h) f hf as s

theorem time (h : JournalRun s t) : t.time = s.time := by
  induction h with
  | refl => rfl
  | tail _ step ih =>
    obtain ⟨b⟩ | ⟨time, -⟩ := step
    · exact ih
    · exact time.trans ih

/-- A run leaves the journal with records appended, stamped with the count that all of it falls in. -/
theorem grown (h : JournalRun s t) : Grown s t := by
  induction h with
  | refl => exact .refl s
  | tail run step ih =>
    obtain ⟨b⟩ | ⟨-, reads⟩ := step
    · exact ih.trans (time run) (.append b _)
    · obtain ⟨bodies, grown⟩ := ih
      exact ⟨bodies, reads.journal.trans grown⟩

end JournalRun

end

/-! ### Sections and the Reset Transaction Table -/

section
variable (s : State)

theorem putSection_run (n : SectionId) (old : SectionMode) (x : Section) : JournalRun s (putSection n old x s) := by
  unfold putSection
  dsimp only
  split
  · exact .same rfl rfl rfl
  · exact .append _ (.same rfl rfl rfl)

theorem disturb_run (cause : Cause) (n : SectionId) : JournalRun s (disturb cause n s) := putSection_run _ _ _ _

theorem raiseReset_run (proposer : PortId) : JournalRun s (raiseReset proposer s) :=
  .reads .refl (raiseReset_only proposer s).time <| readsOnly_of_watches (raiseReset_journal proposer s)
    (fun p => by rw [raiseReset_watch]) fun p => by rw [raiseReset_watch]

theorem setOpenTxn_run (n : SectionId) (number : Option Byte) : JournalRun s (setOpenTxn n number s) :=
  .same rfl rfl rfl

theorem setSlot_run (k : SlotId) (x : Option Txn) : JournalRun s (s.setSlot k x) := .same rfl rfl rfl

theorem endTxn_run (e : ResetEvent) (k : SlotId) (t : Txn) : JournalRun s (endTxn e k t s) :=
  .after (raiseReset_run _ _) <| .after (setOpenTxn_run _ _ _) <| .after (setSlot_run _ _ _) (.append _ .refl)

theorem cancelFor_run (reason : CancelReason) (q : Txn → Bool) (n : SectionId) :
    JournalRun s (cancelFor reason q n s) := by
  unfold cancelFor
  split
  · exact endTxn_run s _ _ _
  · exact .refl

theorem completeTxn_run (k : SlotId) (t : Txn) : JournalRun s (completeTxn k t s) :=
  .after (raiseReset_run _ _) <| .after (setSlot_run _ _ _) <| .after (putSection_run _ _ _ _) (.append _ .refl)

theorem addConfirmation_run (p : PortId) (k : SlotId) (t : Txn) : JournalRun s (addConfirmation p k t s) :=
  .append _ (.same rfl rfl rfl)

theorem expireTxn_run (k : SlotId) : JournalRun s (expireTxn k s) := by
  unfold expireTxn
  split
  · exact endTxn_run s _ _ _
  · exact .refl

theorem setInhibitFlag_run (p : PortId) (n : SectionId) (on : Bool) : JournalRun s (setInhibitFlag p n on s) := by
  unfold setInhibitFlag
  dsimp only
  split
  · exact .after (cancelFor_run _ _ _ _) (.same rfl rfl rfl)
  · exact .same rfl rfl rfl

/-! ### Points and hand-offs -/

theorem changePoint_run (d : PointId) (old : PointName) (x : Point) (cause : Option Cause) :
    JournalRun s (changePoint d old x cause s) := .append _ (.same rfl rfl rfl)

theorem warningRecord_run (d : PointId) (before after : Bool) : JournalRun s (warningRecord d before after s) := by
  unfold warningRecord
  split
  · exact .refl
  · exact .append _ .refl

theorem makeHandOff_run (d : PointId) (x : Point) (tel : Telegram) (dAB dBA : Byte) (gap : Nat) :
    JournalRun s (makeHandOff d x tel dAB dBA gap s) := .same rfl rfl rfl

theorem depart_run (d : PointId) (c : PointCfg) (x : Point) (cause : Cause) (tel : Option Telegram) :
    JournalRun s (depart d c x cause tel s) :=
  .after (.foldl (fun _ _ => cancelFor_run _ _ _ _) c.adjacent _) <|
    .after (.foldl (fun _ n => disturb_run _ cause n) c.adjacent _) (.append _ (.same rfl rfl rfl))

theorem acceptTelegram_run (d : PointId) (x : Point) (last tel : Telegram) (dAB dBA : Byte) (gap : Nat) :
    JournalRun s (acceptTelegram d x last tel dAB dBA gap s) :=
  .after (makeHandOff_run _ _ _ _ _ _ _) <| .after (warningRecord_run _ _ _ _) (.same rfl rfl rfl)

theorem enterSync_run (d : PointId) (x : Point) (candidate tel : Telegram) :
    JournalRun s (enterSync d x candidate tel s) :=
  .after (makeHandOff_run _ _ _ _ _ _ _) <| .after (warningRecord_run _ _ _ _) (changePoint_run _ _ _ _ _)

theorem judgeCounts_run (d : PointId) (c : PointCfg) (x : Point) (last : Telegram) (bAB bBA : Byte) (tel : Telegram)
    (gap : Nat) : JournalRun s (judgeCounts d c x last bAB bBA tel gap s) := by
  unfold judgeCounts
  split
  · exact acceptTelegram_run _ _ _ _ _ _ _ _
  · exact depart_run _ _ _ _ _ _

theorem inSyncTelegram_run (d : PointId) (c : PointCfg) (x : Point) (last : Telegram) (older : Option Telegram)
    (bAB bBA : Byte) (e : BitVec 3) (tel : Telegram) :
    JournalRun s (inSyncTelegram d c x last older bAB bBA e tel s) := by
  unfold inSyncTelegram
  repeat' split
  all_goals
    first
      | exact .same rfl rfl rfl
      | exact depart_run _ _ _ _ _ _
      | exact judgeCounts_run _ _ _ _ _ _ _ _ _

theorem supervise_run (l : LineId) (del : Delivery) : JournalRun s (supervise l del s) := by
  unfold supervise huntTelegram pendingTelegram faultedTelegram toFaulted toPending
  dsimp only
  repeat' split
  all_goals
    first
      | exact .same rfl rfl rfl
      | exact changePoint_run _ _ _ _ _
      | exact enterSync_run _ _ _ _ _
      | exact inSyncTelegram_run _ _ _ _ _ _ _ _ _ _

theorem takeDelivery_run (l : LineId) : JournalRun s (takeDelivery l s) := by
  unfold takeDelivery
  split
  · exact .refl
  · exact .after (supervise_run _ _ _) (.same rfl rfl rfl)

theorem pointSilent_run (d : PointId) : JournalRun s (pointSilent d s) := by
  unfold pointSilent
  dsimp only
  split
  · exact depart_run _ _ _ _ _ _
  · exact changePoint_run _ _ _ _ _
  · exact changePoint_run _ _ _ _ _
  all_goals exact .refl

theorem applySection_run (n : SectionId) (ins outs : Nat) : JournalRun s (applySection n ins outs s) := by
  unfold applySection
  dsimp only
  split
  · exact .refl
  · exact putSection_run _ _ _ _

theorem recordAxles_run (h : HandOff) : JournalRun s (recordAxles h s) := by
  unfold recordAxles
  split
  · exact .append _ .refl
  · exact .refl

theorem activityStep_run (h : HandOff) : JournalRun s (activityStep h s) := by
  unfold activityStep
  split
  · exact .foldl (fun _ _ => cancelFor_run _ _ _ _) _ _
  · exact .refl

theorem applySideA_run (h : HandOff) : JournalRun s (applySideA h s) := by
  unfold applySideA
  split
  · exact applySection_run _ _ _ _
  · exact .refl

theorem applySideB_run (h : HandOff) : JournalRun s (applySideB h s) := by
  unfold applySideB
  split
  · exact applySection_run _ _ _ _
  · exact .refl

theorem setStage_run (h : HandOff) (stage : Option HandOffStage) : JournalRun s (setStage h stage s) :=
  .same rfl rfl rfl

theorem handOffStep_run (h : HandOff) : JournalRun s (handOffStep h s) := by
  unfold handOffStep
  split
  · exact .after (setStage_run _ _ _) (recordAxles_run _ _)
  · exact .after (setStage_run _ _ _) (applySideA_run _ _)
  · exact .after (setStage_run _ _ _) (applySideB_run _ _)
  · exact .after (setStage_run _ _ _) (activityStep_run _ _)

theorem handOffOnce_run : JournalRun s (handOffOnce s) := by
  unfold handOffOnce
  split
  · exact handOffStep_run _ _
  · exact .refl

theorem handOffAll_run : JournalRun s (handOffAll s) :=
  .after (handOffOnce_run _) <| .after (handOffOnce_run _) <| .after (handOffOnce_run _) (handOffOnce_run _)

/-! ### Lines and port links -/

theorem lineHeard_run (l : LineId) : JournalRun s (lineHeard l s) := by
  unfold lineHeard
  dsimp only
  split
  · exact .same rfl rfl rfl
  · exact .append _ (.same rfl rfl rfl)

theorem routeTelegram_run (l : LineId) (del : Delivery) : JournalRun s (routeTelegram l del s) := by
  unfold routeTelegram
  dsimp only
  split <;> exact .same rfl rfl rfl

theorem checkTelegram_run (l : LineId) (bytes : List Byte) : JournalRun s (checkTelegram l bytes s) := by
  unfold checkTelegram
  split
  · exact .after (routeTelegram_run _ _ _) <| .after (lineHeard_run _ _) (.same rfl rfl rfl)
  · exact .same rfl rfl rfl

theorem lineCharacter_run (l : LineId) (b : Byte) : JournalRun s (lineCharacter l b s) := by
  unfold lineCharacter
  dsimp only
  repeat' split
  case h_2.isFalse => exact .after (checkTelegram_run _ _ _) (.same rfl rfl rfl)
  all_goals exact .same rfl rfl rfl

theorem isolate_run (p : PortId) : JournalRun s (isolate p s) := .append _ (.same rfl rfl rfl)

theorem setLinkLatch_run (p : PortId) : JournalRun s (setLinkLatch p s) := .watch rfl rfl

theorem linkError_run (p : PortId) : JournalRun s (linkError p s) := by
  have latched : JournalRun s
      (setLinkLatch p (s.setPort p { s.port p with errorLevel := satAdd top8 (s.port p).errorLevel 1 })) :=
    .after (setLinkLatch_run _ _) (.same rfl rfl rfl)
  unfold linkError
  dsimp only
  split
  · exact .after (isolate_run _ _) latched
  · exact latched

theorem discardFrame_run (p : PortId) : JournalRun s (discardFrame p s) :=
  .after (linkError_run _ _) (.same rfl rfl rfl)

theorem rejoinPort_run (p : PortId) (tag : Byte) : JournalRun s (rejoinPort p tag s) := by
  unfold rejoinPort
  split
  · exact .append _ (.same rfl rfl rfl)
  · exact .same rfl rfl rfl

theorem placeAnswer_run (p : PortId) (a : Answer) : JournalRun s (placeAnswer p a s) := .same rfl rfl rfl

theorem needsRoom_run {p : PortId} {effect : State → State} (h : JournalRun s (effect s)) :
    JournalRun s (needsRoom p effect s) := by
  unfold needsRoom
  split
  · exact h
  · exact linkError_run _ _

theorem handleFrame_run (p : PortId) (tag : Byte) (r : Option Request) : JournalRun s (handleFrame p tag r s) := by
  unfold handleFrame handleRequest
  repeat' split
  all_goals
    first
      | exact .same rfl rfl rfl
      | exact needsRoom_run _ (rejoinPort_run _ _ _)
      | exact needsRoom_run _ (.same rfl rfl rfl)
      | exact needsRoom_run _ (.after (linkError_run _ _) (.same rfl rfl rfl))

theorem completeFrame_run (p : PortId) (held : List Byte) : JournalRun s (completeFrame p held s) := by
  unfold completeFrame
  split
  · exact handleFrame_run _ _ _ _
  · exact discardFrame_run _ _

theorem collected_run (p : PortId) (held : List Byte) : JournalRun s (collected p held s) := by
  unfold collected
  repeat' split
  · exact discardFrame_run _ _
  · exact .after (completeFrame_run _ _ _) (.same rfl rfl rfl)
  · exact .refl

theorem portCharacter_run (p : PortId) (b : Byte) : JournalRun s (portCharacter p b s) := by
  unfold portCharacter
  dsimp only
  repeat' split
  case h_2 => exact .after (collected_run _ _ _) (.same rfl rfl rfl)
  all_goals exact .same rfl rfl rfl

/-! ### Starts, loads and the Time Base -/

/-- A warm start keeps the journal, the cursors and the slip counts (R16). -/
theorem restartSent_run : JournalRun s (restartSent s) :=
  .reads .refl rfl <| readsOnly_of_watches rfl (fun p => by rw [restartSent, warmStart_watch]; rfl)
    fun p => by rw [restartSent, warmStart_watch]; rfl

theorem answerSent_run (p : PortId) :
    JournalRun s ((if p = .mnt ∧ restartSending s then restartSent else sendHead p) s) := by
  split
  · exact restartSent_run s
  · exact .same rfl rfl rfl

theorem endLoad_run (image : List Byte) : JournalRun s (endLoad image s) := by
  by_cases good : imageFaultOf (presented image) = .none
  · rw [endLoad_of_good s good]
    exact .append _ <| .reads .refl rfl <| readsOnly_of_watches rfl (fun p => by rw [enterRunning_watch]; rfl)
      fun p => by rw [enterRunning_watch]; rfl
  · rw [endLoad_of_fault s good]
    exact .append _ (.same rfl rfl rfl)

theorem tick_reads : ReadsOnly s (tick s) := by
  refine readsOnly_of_watches ?_ (fun p => ?_) fun p => ?_
  · unfold tick
    cases s.inService <;> cases s.live <;> rfl
  · rw [tick_watch]
    split <;> rfl
  · rw [tick_watch]
    split <;> rfl

end

/-! ### Requests -/

section
variable (p : PortId) (r : Request) (s : State)

theorem setInhibitRule_run : JournalRun s (setInhibitRule p r s).state := by
  unfold setInhibitRule
  repeat' split
  case h_2.isFalse.isFalse => exact setInhibitFlag_run _ _ _ _
  all_goals exact .refl

theorem openTransaction_run (n : SectionId) (kind : ResetKind) (k : SlotId) :
    JournalRun s (openTransaction p n kind k s) := .append _ (.same rfl rfl rfl)

theorem proposeResetRule_run : JournalRun s (proposeResetRule p r s).state := by
  unfold proposeResetRule proposeChecked
  dsimp only
  repeat' split
  all_goals
    first
      | exact .refl
      | exact openTransaction_run _ _ _ _ _

theorem confirmResetRule_run : JournalRun s (confirmResetRule p r s).state := by
  unfold confirmResetRule
  split
  · exact .refl
  dsimp only
  split
  · exact endTxn_run _ _ _ _
  split
  · exact .refl
  split
  · split
    · exact .after (completeTxn_run _ _ _) (addConfirmation_run _ _ _ _)
    · exact .after (endTxn_run _ _ _ _) (addConfirmation_run _ _ _ _)
  · exact addConfirmation_run _ _ _ _

theorem cancelResetRule_run : JournalRun s (cancelResetRule p r s).state := by
  unfold cancelResetRule
  repeat' split
  case h_2.isFalse => exact endTxn_run _ _ _ _
  all_goals exact .refl

theorem selectViewRule_run : JournalRun s (selectViewRule p r s).state := by
  unfold selectViewRule
  split <;> exact .same rfl rfl rfl

theorem identifyRule_run : JournalRun s (identifyRule p r s).state := by
  refine .watch ?_ ?_ <;> · unfold clearCause; split <;> rfl

/-- A cursor moved over `n` of the unread records leaves the others unread (R136). -/
theorem unread_read {w : Word} {x : Watch} {n : Nat} (h : n ≤ unread w x) :
    (w - (x.cursor + BitVec.ofNat 32 n)).toNat = unread w x - n := by
  unfold unread at *
  bv_omega

/-- What a read leaves unread was unread before it (R136). -/
theorem journalReadRule_run : JournalRun s (journalReadRule p r s).state := by
  have read : JournalRun s
      (s.setWatch p (readWatch (itemsAsked (r.byte 0)) s.journal.writeSeq (s.watch p))) := by
    refine .reads .refl rfl (readsOnly_setWatch ?_ (Nat.zero_le _))
    have few : recordsRead (itemsAsked (r.byte 0)) s.journal.writeSeq (s.watch p) ≤ s.unread p := Nat.min_le_right _ _
    exact le_max_of_le_left ((unread_read few).trans_le (Nat.sub_le _ _))
  unfold journalReadRule
  dsimp only
  split <;> exact read

/-- After a seek the records held are unread, or none is (R138). -/
theorem unread_seek {b : Byte} {j : Journal} {c : Word} (h : seekTarget b j = some c) :
    (j.writeSeq - c).toNat ≤ j.held := by
  unfold seekTarget Journal.oldest at h
  split at h
  · obtain rfl := Option.some.inj h
    have back : j.writeSeq - (j.writeSeq - BitVec.ofNat 32 j.held) = BitVec.ofNat 32 j.held := by bv_omega
    rw [back]
    exact Nat.mod_le _ _
  split at h
  · obtain rfl := Option.some.inj h
    simp
  · exact nomatch h

theorem journalSeekRule_run : JournalRun s (journalSeekRule p r s).state := by
  unfold journalSeekRule
  split
  · exact .refl
  · rename_i target
    exact .reads .refl rfl (readsOnly_setWatch (le_max_of_le_right (unread_seek target)) (Nat.zero_le _))

end

/-! ### Every command -/

section
variable {s t : State}

theorem settle_run (s : State) : JournalRun s (settle s) := .same rfl rfl rfl

theorem settle_reads (h : ReadsOnly s t) : ReadsOnly s (settle t) := ⟨h.journal, h.unread_le, h.slip_le⟩

theorem event_run {can : Bool} {eff : State → State} (h : event can eff s = .next t)
    (run : JournalRun s (eff s)) : JournalRun s t := by
  obtain ⟨-, rfl⟩ | ⟨-, rfl⟩ := event_next h
  · exact .after (settle_run _) run
  · exact .refl

/-- Taking a request and placing its answer leave the journal alone: a request command runs it as its rule does. -/
theorem engineStep_run {kind : RequestKind} {rule : PortId → Request → State → Reply}
    (h : engineStep kind rule s = .next t) (run : ∀ p r u, JournalRun u (rule p r u).state) : JournalRun s t := by
  refine event_run h ?_
  unfold takeAndServe
  split
  · rename_i p r one two _
    have examined : JournalRun (takeRequest p one two s) (examine rule p r (takeRequest p one two s)).state := by
      unfold examine
      repeat' split
      case isTrue.isFalse => exact run _ _ _
      all_goals exact .refl
    exact .after (placeAnswer_run _ _ _) <| .after examined (.same rfl rfl rfl)
  · exact .refl

/-- Every command but a cold start appends records, or only reads the journal. -/
theorem exec_journal {c : Instr} (h : exec c s = .next t) (warm : ∀ low, c ≠ .coldStart low) :
    JournalRun s t ∨ ReadsOnly s t := by
  cases c with
  | coldStart low => exact absurd rfl (warm low)
  | timeBaseMillisecond =>
    obtain rfl := Host.Outcome.next.inj h
    exact .inr (settle_reads (tick_reads s))
  | loadEnd image => exact .inl (event_run h (endLoad_run s image))
  | warmStart => exact .inl (event_run h (restartSent_run s))
  | answerSent p => exact .inl (event_run h (answerSent_run s p))
  | trkGoodCharacter l b early => exact .inl (event_run h (lineCharacter_run s l b))
  | resetInputLow | trkFramingError | trkBreak | trkBreakEnd | trkGapTimeout | portBreakEnd =>
    dsimp only [exec, execResetInputLow, execTrkFramingError, execTrkBreak, execTrkBreakEnd, execTrkGapTimeout,
      execPortBreakEnd] at h
    exact .inl (event_run h (.same rfl rfl rfl))
  | lineSilenceExpiry | portBreak =>
    dsimp only [exec, execLineSilenceExpiry, execPortBreak] at h
    exact .inl (event_run h (.append _ (.same rfl rfl rfl)))
  | telegramDelivery l => exact .inl (event_run h (takeDelivery_run s l))
  | pointSilenceExpiry d => exact .inl (event_run h (pointSilent_run s d))
  | handOff span =>
    cases span with
    | whole => exact .inl (event_run h (handOffAll_run s))
    | oneStep => exact .inl (event_run h (handOffOnce_run s))
  | clearingTimerExpiry n => exact .inl (event_run h (putSection_run s _ _ _))
  | confirmWindowExpiry k => exact .inl (event_run h (expireTxn_run s k))
  | dwellTimerExpiry p =>
    unfold exec execDwellTimerExpiry at h
    exact .inl (event_run h (.watch rfl rfl))
  | portGoodCharacter p b => exact .inl (event_run h (portCharacter_run s p b))
  | rejoin p tag => exact .inl (event_run h (handleFrame_run s p tag _))
  | portFramingError p | portGapTimeout p => exact .inl (event_run h (discardFrame_run s p))
  | status | summary | readNext | clearStatistics | restart =>
    exact .inl (engineStep_run h fun _ _ _ => .same rfl rfl rfl)
  | readSection => exact .inl (engineStep_run h fun p r u => by rw [readSectionRule_state])
  | readPoint => exact .inl (engineStep_run h fun p r u => by rw [readPointRule_state])
  | readLine => exact .inl (engineStep_run h fun p r u => by rw [readLineRule_state])
  | selectView => exact .inl (engineStep_run h selectViewRule_run)
  | journalRead => exact .inl (engineStep_run h journalReadRule_run)
  | journalSeek => exact .inl (engineStep_run h journalSeekRule_run)
  | identify => exact .inl (engineStep_run h identifyRule_run)
  | setMask => exact .inl (engineStep_run h fun _ _ _ => .watch rfl rfl)
  | setInhibit => exact .inl (engineStep_run h setInhibitRule_run)
  | proposeReset => exact .inl (engineStep_run h proposeResetRule_run)
  | confirmReset => exact .inl (engineStep_run h confirmResetRule_run)
  | cancelReset => exact .inl (engineStep_run h cancelResetRule_run)

end

/-- Settles O39: a run of appends falls in one count of the Time Base, and reading appends nothing. -/
theorem journalOnlyAppends : Obligations.JournalOnlyAppends := by
  unfold Obligations.JournalOnlyAppends
  intro c s t h warm
  obtain run | reads := exec_journal h warm
  · exact run.grown
  · exact ⟨[], reads.journal⟩

end Sys2Proof.Proofs
end

section
/-! Proofs: the append and the slip (R129, R133), and what every step keeps of the ring, the unread counts and the slip
counts (R127, R132, R134). -/

namespace Sys2Proof.Proofs

open Sys2Proof.Machine Sys2Proof.Safety Sys2Proof.Claims

/-! ### The ring -/

section
variable (j : Journal) (time : Word) (b : RecordBody)

theorem push_held_of_lt (h : j.held < 512) : (j.push time b).held = j.held + 1 := if_pos h

theorem push_held_of_full (h : j.held = 512) : (j.push time b).held = 512 :=
  (if_neg (by rw [h]; decide)).trans h

/-- The 511 records before the next one have other places (R127). -/
theorem placeOf_sub_ne (w : Word) {k : Nat} (pos : 0 < k) (small : k < 512) :
    placeOf (w - BitVec.ofNat 32 k) ≠ placeOf w := by
  intro same
  have same : (w - BitVec.ofNat 32 k).toNat % 512 = w.toNat % 512 := congrArg Fin.val same
  simp only [BitVec.toNat_sub, BitVec.toNat_ofNat] at same
  omega

/-- Each of the H newest sequence numbers has its record in its place (R127). -/
def HoldsNewest (j : Journal) : Prop :=
  ∀ k < j.held, ∃ r, j.at (j.writeSeq - BitVec.ofNat 32 (k + 1)) = some r ∧
    r.seq = j.writeSeq - BitVec.ofNat 32 (k + 1)

/-- The new record stands in the first place back from W, and each older one held is one place further back (R127). -/
theorem push_holdsNewest (full : j.held ≤ 512) (kept : HoldsNewest j) : HoldsNewest (j.push time b) := by
  intro k hk
  have back : (j.push time b).writeSeq - BitVec.ofNat 32 (k + 1) = j.writeSeq - BitVec.ofNat 32 k := by
    rw [push_writeSeq]
    bv_omega
  rw [back]
  cases k with
  | zero =>
    rw [BitVec.sub_zero]
    exact ⟨_, push_at_same j time b, rfl⟩
  | succ k =>
    have older : k < j.held ∧ k + 1 < 512 := by
      obtain room | noRoom := Nat.lt_or_eq_of_le full
      · rw [push_held_of_lt j time b room] at hk
        omega
      · rw [push_held_of_full j time b noRoom] at hk
        omega
    rw [push_at_ne j time b (placeOf_sub_ne _ k.succ_pos older.2)]
    exact kept k older.1

end

/-! ### The ports at an append -/

section
variable {b : RecordBody} {s : State} {p : PortId}

theorem append_unread_of_full (h : s.unread p = 512) : (append b s).unread p = 256 := by
  have full : unread s.journal.writeSeq (s.watch p) = 512 := h
  simp only [State.unread, append_journal, append_watch, push_writeSeq, watchAppend_eq, full, if_true]
  simp only [unread]
  bv_omega

theorem append_unread_of_lt (h : s.unread p < 512) : (append b s).unread p = s.unread p + 1 := by
  have room : unread s.journal.writeSeq (s.watch p) ≠ 512 := h.ne
  simp only [State.unread, append_journal, append_watch, push_writeSeq, watchAppend_eq, if_neg room]
  simp only [State.unread, unread] at h ⊢
  bv_omega

theorem append_slipCount (b : RecordBody) (s : State) (p : PortId) :
    ((append b s).watch p).slipCount =
      if s.unread p = 512 then min 65535 ((s.watch p).slipCount + 257) else (s.watch p).slipCount := by
  rw [append_watch, watchAppend_eq]
  rfl

end

theorem isState_iff (b : RecordBody) : b.isState = true ↔ ∃ n old new c net, b = .state n old new c net := by
  cases b <;> simp [RecordBody.isState]

/-- Settles O36: the spec lemmas of the ring and of `watchAppend`, with the unread counts that follow. -/
theorem appendAndSlip : Obligations.AppendAndSlip := by
  unfold Obligations.AppendAndSlip
  intro b s small t W
  refine ⟨(append_only b s).1, push_at_same _ _ _, fun q other => push_at_ne _ _ _ other, rfl,
    push_held_of_lt _ _ _, push_held_of_full _ _ _, fun p => ?_⟩
  intro x y
  have appended : y = _ := (append_watch s b p).trans (watchAppend_eq _ _ _)
  have dwell : y.dwell = if s.unread p = 0 then some x.dwellTime else x.dwell := by rw [appended]; rfl
  have cursor : y.cursor = if s.unread p = 512 then W + 1 - 256 else x.cursor := by rw [appended]; rfl
  have slip : y.slipCount = _ := append_slipCount b s p
  have latch : y.latchSection = (b.isState || x.latchSection) := by rw [appended]
  refine ⟨fun full => ?full, fun room => ?room, fun none => ?none, fun waiting => ?waiting, fun isState => ?isState,
    fun other => ?other, by rw [appended]⟩
  case full =>
    rw [cursor, slip, dwell, if_pos full, if_pos full, if_neg (by omega)]
    refine ⟨rfl, ?_, rfl, append_unread_of_full full, rfl⟩
    have full : (W - x.cursor).toNat = 512 := full
    bv_omega
  case room =>
    rw [cursor, slip, if_neg room.ne, if_neg room.ne]
    exact ⟨rfl, rfl, append_unread_of_lt room⟩
  case none => rw [dwell, if_pos none]
  case waiting => rw [dwell, if_neg waiting]
  case isState => rw [latch, (isState_iff b).mpr isState, Bool.true_or]
  case other =>
    have no : b.isState = false := by
      rw [← Bool.not_eq_true, isState_iff]
      rintro ⟨n, old, new, c, net, same⟩
      exact other n old new c net same
    rw [latch, no, Bool.false_or]

/-! ### Sound journals -/

section
variable {s t : State}

theorem append_journalSound (b : RecordBody) (hs : JournalSound s) : JournalSound (append b s) := by
  have grows : ∀ p, (append b s).unread p ≤ (append b s).journal.held := by
    intro p
    have behind := hs.unread_le p
    rw [append_journal]
    obtain room | full := Nat.lt_or_eq_of_le hs.held_le
    · rw [append_unread_of_lt (by omega), push_held_of_lt _ _ _ room]
      omega
    · rw [push_held_of_full _ _ _ full]
      obtain fits | slips := Nat.lt_or_eq_of_le (behind.trans_eq full)
      · rw [append_unread_of_lt fits]
        omega
      · rw [append_unread_of_full slips]
        decide
  refine ⟨?_, push_holdsNewest _ _ _ hs.held_le hs.kept, grows, fun p => ?_⟩
  · rw [append_journal]
    obtain room | full := Nat.lt_or_eq_of_le hs.held_le
    · rw [push_held_of_lt _ _ _ room]
      exact room
    · exact (push_held_of_full _ _ _ full).le
  · rw [append_slipCount]
    split
    · exact Nat.min_le_left _ _
    · exact hs.slip_le p

theorem ReadsOnly.journalSound (h : ReadsOnly s t) (hs : JournalSound s) : JournalSound t where
  held_le := by rw [h.journal]; exact hs.held_le
  kept := by rw [h.journal]; exact hs.kept
  unread_le p := by
    rw [h.journal]
    exact (h.unread_le p).trans (max_le (hs.unread_le p) le_rfl)
  slip_le p := (h.slip_le p).trans (hs.slip_le p)

theorem JournalRun.journalSound (h : JournalRun s t) (hs : JournalSound s) : JournalSound t := by
  induction h with
  | refl => exact hs
  | tail _ step ih =>
    obtain ⟨b⟩ | ⟨-, reads⟩ := step
    · exact append_journalSound b ih
    · exact reads.journalSound ih

/-- A cold start empties the journal (R12). -/
theorem coldStart_journalSound (low : PortLevels) (s : State) : JournalSound (coldStart low s) where
  held_le := Nat.zero_le _
  kept k hk := absurd hk k.not_lt_zero
  unread_le p := by
    rw [State.unread, coldStart_watch]
    exact (by decide : unread 0 .cold ≤ 0)
  slip_le p := by
    rw [coldStart_watch]
    exact Nat.zero_le _

theorem exec_keeps_journal (c : Instr) (s t : State) (hs : JournalSound s) (h : exec c s = .next t) :
    JournalSound t := by
  by_cases cold : ∃ low, c = .coldStart low
  · obtain ⟨low, rfl⟩ := cold
    obtain rfl := Host.Outcome.next.inj h
    exact (settle_run _).journalSound (coldStart_journalSound low s)
  · obtain run | reads := exec_journal h fun low same => cold ⟨low, same⟩
    · exact run.journalSound hs
    · exact reads.journalSound hs

end

/-- Settles O53: appends and reads keep a journal sound, and a cold start empties it. -/
theorem journalKept : Obligations.JournalKept := by
  unfold Obligations.JournalKept
  exact step_keeps (fun _ _ h => ⟨h.held_le, h.kept, h.unread_le, h.slip_le⟩) exec_keeps_journal

end Sys2Proof.Proofs
end

section
/-! Proofs: JOURNAL READ and JOURNAL SEEK (R135 to R138) with the bytes of their items (R183), and the expiry of the
dwell timer (R140, R173). -/

namespace Sys2Proof.Proofs

open Sys2Proof.Machine Sys2Proof.Safety Sys2Proof.Claims

/-! ### The bytes of an item (R183) -/

theorem portCode_mem (p : PortId) : (p, portCode p) ∈ portCodes := by cases p <;> decide

theorem reasonCode_mem (x : CancelReason) : (x, reasonCode x) ∈ reasonCodes := by cases x <;> decide

theorem bodyIs_recordBytes (e : JRecord) : BodyIs (recordBytes e) e.body := by
  obtain ⟨seq, time, body⟩ := e
  cases body with
  | axle d dAB dBA a c gap seq =>
    exact ⟨rfl, byteOf_toNat (by omega), rfl, rfl, sectionOrNone_eq a, sectionOrNone_eq c, rfl, byteOf_toNat (by omega)⟩
  | state n old new cause net =>
    exact ⟨rfl, byteOf_toNat (by omega), sectionCode_mem old, sectionCode_mem new, causeIs_causeCode cause,
      byteOf_append_byteOf net, rfl⟩
  | point d old new cause event =>
    refine ⟨rfl, byteOf_toNat (by omega), pointCode_mem old, pointCode_mem new, causeIs_causeCode cause, ?_, rfl⟩
    cases event <;> rfl
  | line l up => exact ⟨rfl, byteOf_toNat (by omega), rfl, rfl⟩
  | reset number n kind event =>
    have kindByte : resetKindCode kind = if kind = .preparatory then 0x01 else 0x02 := by cases kind <;> rfl
    cases event with
    | proposed p => exact ⟨rfl, rfl, byteOf_toNat (by omega), kindByte, ⟨rfl, portCode_mem p⟩, rfl⟩
    | confirmed p => exact ⟨rfl, rfl, byteOf_toNat (by omega), kindByte, ⟨rfl, portCode_mem p⟩, rfl⟩
    | cancelled reason => exact ⟨rfl, rfl, byteOf_toNat (by omega), kindByte, ⟨rfl, reasonCode_mem reason⟩, rfl⟩
    | completed | expired => exact ⟨rfl, rfl, byteOf_toNat (by omega), kindByte, ⟨rfl, rfl⟩, rfl⟩
  | port p event =>
    refine ⟨rfl, portCode_mem p, ?_, rfl⟩
    cases event <;> rfl
  | start kind label fault =>
    refine ⟨rfl, ?_, (byteOf_append_byteOf _).trans (by simp), imageFaultCode_mem fault, rfl⟩
    cases kind <;> rfl

theorem recordBytes_length (e : JRecord) : (recordBytes e).length = 16 := by
  obtain ⟨seq, time, body⟩ := e
  cases body with
  | reset number n kind event => cases event <;> rfl
  | _ => rfl

theorem recordBytes_is (e : JRecord) : RecordIs (recordBytes e) e :=
  ⟨recordBytes_length e, be32_bytes e.seq, be32_bytes e.time, bodyIs_recordBytes e⟩

theorem slipBytes_is (cursor time : Word) (count : Nat) : SlipIs (slipBytes cursor time count) cursor time count :=
  ⟨rfl, be32_bytes cursor, be32_bytes time, rfl, byteOf_append_byteOf count, rfl⟩

/-! ### Items of equal length, one behind the other -/

section
variable {α : Type} {f : Nat → List α} {k n : Nat}

theorem flatMap_range_length (sized : ∀ i < n, (f i).length = k) : ((List.range n).flatMap f).length = k * n := by
  induction n with
  | zero => rfl
  | succ n ih =>
    rw [List.range_succ, List.flatMap_append, List.length_append, ih fun i h => sized i (h.trans n.lt_succ_self),
      List.flatMap_singleton, sized n n.lt_succ_self, Nat.mul_succ]

theorem flatMap_range_item (sized : ∀ i < n, (f i).length = k) {i : Nat} (h : i < n) :
    (((List.range n).flatMap f).drop (k * i)).take k = f i := by
  induction n with
  | zero => exact absurd h i.not_lt_zero
  | succ n ih =>
    have before : ∀ i < n, (f i).length = k := fun i h => sized i (h.trans n.lt_succ_self)
    have length := flatMap_range_length before
    rw [List.range_succ, List.flatMap_append, List.flatMap_singleton]
    obtain inside | rfl := Nat.lt_succ_iff_lt_or_eq.mp h
    · have fits : k * i + k ≤ k * n := Nat.mul_le_mul_left k inside
      rw [List.drop_append_of_le_length (by omega), List.take_append_of_le_length (by rw [List.length_drop]; omega),
        ih before inside]
    · rw [List.drop_left' length, List.take_of_length_le (sized i h).le]

end

/-! ### Requests that change the reading state of their port alone -/

section
variable {s : State} {p : PortId} {r : Request} {queue : List Request} {one : RingOne} {two : RingTwo}
  {rule : PortId → Request → State → Reply} {result : ResultCode} {payload : List Byte} {x : Watch}

theorem examine_journalRule (kind : r.kind = .journalRead ∨ r.kind = .journalSeek) (u : State) :
    examine rule p r u = rule p r u :=
  examine_rule (by obtain kind | kind := kind <;> rw [kind] <;> rfl) fun _ => by
    obtain kind | kind := kind <;> rw [kind] <;> rfl

/-- A request about the journal is answered with its rule's result, after the change of its port's reading state. -/
theorem engineStep_watched (takes : Takes s p r queue one two) (kind : r.kind = .journalRead ∨ r.kind = .journalSeek)
    (reply : rule p r (takeRequest p one two s) = ⟨(takeRequest p one two s).setWatch p x, result, payload⟩) :
    ∃ t, engineStep r.kind rule s = .next t ∧
      Settled t (Answered (s.setWatch p x) p r queue one two result payload) := by
  have other : r.kind ≠ .restart := by obtain kind | kind := kind <;> rw [kind] <;> decide
  have unlinked : Unlinked fun u => u.setWatch p x := ⟨fun _ => rfl, fun _ _ _ _ => rfl⟩
  refine ⟨_, engineStep_of_takes takes rule, ?_⟩
  rw [serve_of_reply ((examine_journalRule kind _).trans reply)]
  simp only [answerKind, other, false_and, if_false]
  rw [unlinked.takeRequest, placeAnswer_served (s := s.setWatch p x) (queue_of_takes takes)]
  exact settled_settle _

end

/-! ### JOURNAL READ (R135 to R137) -/

theorem itemsAsked_eq (b : Byte) : itemsAsked b = if b.toNat = 0 then 1 else if 4 < b.toNat then 4 else b.toNat := by
  unfold itemsAsked
  split
  · omega
  · split <;> omega

theorem itemsAsked_pos (b : Byte) : 1 ≤ itemsAsked b := Nat.le_max_left _ _

section
variable {s : State} {p : PortId} (x : Watch) (w : Word)

/-- How many SLIP items a read begins with (R136). -/
def slipsDue (x : Watch) : Nat := if x.slipCount = 0 then 0 else 1

theorem recordsRead_eq (asked : Nat) : recordsRead asked w x = min (asked - slipsDue x) (unread w x) := by
  unfold recordsRead slipsDue
  split <;> rfl

theorem slipItem_length (time : Word) : (slipItem time x).length = 16 * slipsDue x := by
  unfold slipItem slipsDue
  split <;> rfl

theorem slipItem_of_due (time : Word) (due : slipsDue x = 1) :
    SlipIs (slipItem time x) x.cursor time x.slipCount := by
  have counted : x.slipCount ≠ 0 := fun zero => by simp [slipsDue, zero] at due
  rw [slipItem, if_neg counted]
  exact slipBytes_is _ _ _

/-- A read that is not empty gives at least one item, and no more than it asks for (R135, R136). -/
theorem items_bounds {asked : Nat} (asks : 1 ≤ asked) (due : 0 < x.slipCount ∨ 0 < unread w x) :
    1 ≤ slipsDue x + min (asked - slipsDue x) (unread w x) ∧
      slipsDue x + min (asked - slipsDue x) (unread w x) ≤ asked := by
  unfold slipsDue
  split <;> omega

theorem readWatch_eq (asked : Nat) :
    readWatch asked w x =
      { x with
        slipCount := 0
        cursor := x.cursor + BitVec.ofNat 32 (min (asked - slipsDue x) (unread w x))
        dwell := some x.dwellTime } := by
  rw [readWatch, recordsRead_eq]
  rfl

/-- With nothing unread and no slip a read restarts the dwell timer and does no more (R136). -/
theorem journalReadRule_empty (r : Request) (noSlip : (s.watch p).slipCount = 0) (none : s.unread p = 0) :
    journalReadRule p r s =
      ⟨s.setWatch p { s.watch p with dwell := some (s.watch p).dwellTime }, .empty, []⟩ := by
  have none : unread s.journal.writeSeq (s.watch p) = 0 := none
  rw [journalReadRule, if_pos ⟨noSlip, none⟩, readWatch_eq, none, Nat.min_zero, BitVec.add_zero, ← noSlip]

/-- Otherwise it answers with the items and moves the cursor over the records among them (R136). -/
theorem journalReadRule_items (r : Request) (due : 0 < (s.watch p).slipCount ∨ 0 < s.unread p) :
    journalReadRule p r s =
      okay
        (slipItem s.time (s.watch p) ++
          recordsFrom s.journal (s.watch p).cursor (min (itemsAsked (r.byte 0) - slipsDue (s.watch p)) (s.unread p)))
        (s.setWatch p
          { s.watch p with
            slipCount := 0
            cursor := (s.watch p).cursor +
              BitVec.ofNat 32 (min (itemsAsked (r.byte 0) - slipsDue (s.watch p)) (s.unread p))
            dwell := some (s.watch p).dwellTime }) := by
  have due : 0 < (s.watch p).slipCount ∨ 0 < unread s.journal.writeSeq (s.watch p) := due
  have items : ¬ ((s.watch p).slipCount = 0 ∧ unread s.journal.writeSeq (s.watch p) = 0) := by omega
  rw [journalReadRule, if_neg items, recordsRead_eq, readWatch_eq]
  rfl

/-- Every unread record is held in its place (R127, R132). -/
theorem unread_record (hs : JournalSound s) {i : Nat} (h : i < s.unread p) :
    ∃ e, s.journal.at ((s.watch p).cursor + BitVec.ofNat 32 i) = some e ∧
      e.seq = (s.watch p).cursor + BitVec.ofNat 32 i := by
  have newest : s.journal.writeSeq - BitVec.ofNat 32 (s.unread p - 1 - i + 1) =
      (s.watch p).cursor + BitVec.ofNat 32 i := by
    simp only [State.unread, unread] at h ⊢
    bv_omega
  have held := hs.unread_le p
  rw [← newest]
  exact hs.kept (s.unread p - 1 - i) (by omega)

/-- The payload of a read: the SLIP item if one is due, then the records, sixteen bytes each (R136, R183). -/
theorem readPayload_items (hs : JournalSound s) {time : Word} {n : Nat} (few : n ≤ s.unread p) {payload : List Byte}
    (items : payload = slipItem time (s.watch p) ++ recordsFrom s.journal (s.watch p).cursor n) :
    payload.length = 16 * (slipsDue (s.watch p) + n) ∧
      (slipsDue (s.watch p) = 1 →
        SlipIs (payload.take 16) (s.watch p).cursor time (s.watch p).slipCount) ∧
      ∀ i < n, ∃ e, s.journal.at ((s.watch p).cursor + BitVec.ofNat 32 i) = some e ∧
        e.seq = (s.watch p).cursor + BitVec.ofNat 32 i ∧
        RecordIs ((payload.drop (16 * (slipsDue (s.watch p) + i))).take 16) e := by
  subst items
  have stored : ∀ i < n, ∃ e, s.journal.at ((s.watch p).cursor + BitVec.ofNat 32 i) = some e ∧
      e.seq = (s.watch p).cursor + BitVec.ofNat 32 i ∧
      recordAt s.journal ((s.watch p).cursor + BitVec.ofNat 32 i) = recordBytes e := by
    intro i h
    obtain ⟨e, found, seq⟩ := unread_record hs (h.trans_le few)
    exact ⟨e, found, seq, by rw [recordAt, found]⟩
  have sized : ∀ i < n, (recordAt s.journal ((s.watch p).cursor + BitVec.ofNat 32 i)).length = 16 := by
    intro i h
    obtain ⟨e, -, -, bytes⟩ := stored i h
    rw [bytes, recordBytes_length]
  have slips : (slipItem time (s.watch p)).length = 16 * slipsDue (s.watch p) := slipItem_length _ _
  refine ⟨?_, fun due => ?_, fun i h => ?_⟩
  · rw [List.length_append, slips, recordsFrom, flatMap_range_length sized, Nat.mul_add]
  · rw [due] at slips
    rw [List.take_left' slips]
    exact slipItem_of_due _ _ due
  · obtain ⟨e, found, seq, bytes⟩ := stored i h
    refine ⟨e, found, seq, ?_⟩
    rw [Nat.mul_add, ← slips, List.drop_length_add_append, recordsFrom, flatMap_range_item sized h, bytes]
    exact recordBytes_is e

end

/-! ### JOURNAL SEEK (R138) -/

theorem seekTarget_out {b : Byte} (h : 2 ≤ b.toNat) (j : Journal) : seekTarget b j = none := by
  have zero : b ≠ 0 := by bv_omega
  have one : b ≠ 1 := by bv_omega
  rw [seekTarget, if_neg zero, if_neg one]

theorem seekTarget_in {b : Byte} (h : b.toNat < 2) (j : Journal) :
    seekTarget b j = some (if b.toNat = 0 then j.writeSeq - BitVec.ofNat 32 j.held else j.writeSeq) := by
  obtain rfl | rfl := byte_of_lt_two h <;> rfl

/-- Settles O37: the items of a read one by one, and the two targets of a seek. -/
theorem journalRequests : Obligations.JournalRequests := by
  unfold Obligations.JournalRequests
  intro s p r queue one two takes x n
  refine ⟨fun kind sound => ?read, fun kind => ?seek⟩
  case read =>
    intro asked slip records
    have askedItems : itemsAsked (r.byte 0) = asked := itemsAsked_eq _
    constructor
    · intro noSlip noneUnread
      obtain ⟨t, step, settled⟩ := engineStep_watched takes (.inl kind) (journalReadRule_empty r noSlip noneUnread)
      exact ⟨t, by rw [← step, kind]; rfl, settled⟩
    · intro due
      obtain ⟨t, step, settled⟩ := engineStep_watched takes (.inl kind) (journalReadRule_items r due)
      rw [askedItems] at settled
      obtain ⟨atLeastOne, fits⟩ := items_bounds x s.journal.writeSeq (askedItems ▸ itemsAsked_pos _) due
      have few : records ≤ s.unread p := Nat.min_le_right _ _
      obtain ⟨length, slipIs, recordIs⟩ := readPayload_items sound (time := s.time) few rfl
      exact ⟨t, _, by rw [← step, kind]; rfl, settled, length, atLeastOne, fits, slipIs, recordIs⟩
  case seek =>
    constructor
    · intro large
      have refused : journalSeekRule p r (takeRequest p one two s) = refuse .range (takeRequest p one two s) := by
        rw [journalSeekRule, seekTarget_out large]
      obtain ⟨t, step, settled⟩ :=
        engineStep_refused takes (by decide) ((examine_journalRule (.inr kind) _).trans refused)
      exact ⟨t, by rw [← step, kind]; rfl, settled⟩
    · intro small target
      have moved : journalSeekRule p r (takeRequest p one two s) = okay (be32 target)
          ((takeRequest p one two s).setWatch p
            { x with cursor := target, slipCount := 0, dwell := some x.dwellTime }) := by
        rw [journalSeekRule, seekTarget_in small]
        rfl
      obtain ⟨t, step, settled⟩ := engineStep_watched takes (.inr kind) moved
      exact ⟨t, be32 target, by rw [← step, kind]; rfl, rfl, be32_bytes target, settled⟩

/-! ### The dwell timer (R140, R173) -/

/-- Settles O38: the two cases of the unread count at the expiry. -/
theorem dwellTimerExpires : Obligations.DwellTimerExpires := by
  unfold Obligations.DwellTimerExpires
  intro s p high due
  have can : (s.live && timerDue (s.watch p).dwell) = true := by simp [State.live, high, due]
  obtain ⟨t, step, settled⟩ := settled_event can (s := s)
    (eff := fun u => u.setWatch p (dwellExpired u.journal.writeSeq (u.watch p))) rfl
  have latch : (dwellExpired s.journal.writeSeq (s.watch p)) =
      { s.watch p with dwell := none, latchDwell := (s.watch p).latchDwell || decide (0 < s.unread p) } := rfl
  rw [latch] at settled
  refine ⟨t, step, fun waiting => ?_, fun none => ?_⟩
  · rwa [decide_eq_true waiting, Bool.or_true] at settled
  · rwa [none, decide_eq_false (Nat.lt_irrefl 0), Bool.or_false] at settled

end Sys2Proof.Proofs
end

section
/-! Proofs: the operations of a port link (8.2 to 8.5), each as one change of the port, in the form that the statements
give it. -/

namespace Sys2Proof.Proofs

open Sys2Proof.Machine Sys2Proof.Safety Sys2Proof.Claims

/-! ### Link errors and discarded frames (R147, R151, R152) -/

theorem mustIsolate_iff (x : Port) :
    x.mustIsolate = true ↔ x.isolated = false ∧ x.threshold ≠ 0 ∧ x.threshold ≤ x.errorLevel := by
  simp only [Port.mustIsolate, Bool.and_eq_true, Bool.not_eq_true', bne_iff_ne, decide_eq_true_eq, and_assoc]

/-- The change of the port and the LINK latch are in different tables, so their order does not matter. -/
theorem linkError_eq (p : PortId) (s : State) : linkError p s = linkErrored p s := by
  have raised : setLinkLatch p (s.setPort p { s.port p with errorLevel := satAdd top8 (s.port p).errorLevel 1 }) =
      (s.setWatch p { s.watch p with latchLink := true }).setPort p
        { s.port p with errorLevel := min 255 ((s.port p).errorLevel + 1) } := rfl
  unfold linkError linkErrored
  simp only [raised, isolate, mustIsolate_iff, State.setPort_same, setPort_setPort, Port.dropQueue]

theorem discardFrame_eq (p : PortId) (s : State) : discardFrame p s = linkErrored p (withPort s p searching) :=
  linkError_eq p _

/-! ### Answers at once, REJOIN and accepted requests (R149 to R155) -/

theorem answerAtOnce_eq (p : PortId) (tag : Byte) (result : ResultCode) (s : State) :
    answerAtOnce p tag result s = answeredAtOnce p tag result s := by
  simp only [answerAtOnce, answeredAtOnce, immediate, placeAnswer, lowerError, withPort, State.setPort_same,
    setPort_setPort]

theorem badRequest_eq (p : PortId) (tag : Byte) (s : State) :
    badRequest p tag s = linkErrored p (withPort s p fun x =>
      { x with answers := x.answers ++ [Answer.mk .immediate tag .badRequest []] }) := linkError_eq p _

theorem rejoinPort_eq (p : PortId) (tag : Byte) (s : State) : rejoinPort p tag s = rejoined p tag s := by
  unfold rejoinPort rejoined
  simp only [immediate, placeAnswer, withPort, State.setPort_same, setPort_setPort, answerAtOnce_eq]

theorem acceptRequest_eq (p : PortId) (r : Request) (s : State) :
    acceptRequest p r s = withPort s p fun x =>
      { x with
        errorLevel := x.errorLevel - 1
        queue := x.queue ++ [r]
        outstanding := x.outstanding + 1 } := by
  simp only [acceptRequest, lowerError, withPort, State.setPort_same, setPort_setPort]

theorem immediateRoom_iff (p : PortId) (s : State) : immediateRoom p s = true ↔ Room s p := decide_eq_true_iff

theorem needsRoom_of_room {p : PortId} {s : State} (room : Room s p) (effect : State → State) :
    needsRoom p effect s = effect s := if_pos ((immediateRoom_iff p s).mpr room)

theorem needsRoom_of_full {p : PortId} {s : State} (full : ¬ Room s p) (effect : State → State) :
    needsRoom p effect s = linkErrored p s := by
  rw [needsRoom, if_neg (full ∘ (immediateRoom_iff p s).mp), linkError_eq]

theorem linkReset_eq (p : PortId) (s : State) :
    linkReset p s = append (.port p .linkReset) (withPort s p fun x =>
      { x with
        asm := ⟨.search, [], none, true⟩
        queue := []
        outstanding := x.outstanding - x.queue.length }) := rfl

end Sys2Proof.Proofs
end

section
/-! Proofs: every step keeps the port links sound (R151, R152, R154, R155, R164). A served request moves from the queue
to the answer list with its outstanding slot; everything else changes a port by one of the operations of 8.2 to 8.5, a
start, a load or a tick. -/

namespace Sys2Proof.Proofs

open Sys2Proof.Machine Sys2Proof.Safety Sys2Proof.Claims

/-! ### The counts of an answer list (R154, R155) -/

theorem slotAnswers_append (as bs : List Answer) : slotAnswers (as ++ bs) = slotAnswers as + slotAnswers bs := by
  simp only [slotAnswers, List.filter_append, List.length_append]

theorem immediateCount_append (x : Port) (a : Answer) :
    immediateCount { x with answers := x.answers ++ [a] } =
      immediateCount x + if a.kind = .immediate then 1 else 0 := by
  by_cases h : a.kind = .immediate <;> simp [immediateCount, h]

theorem immediateCount_of_sublist {x y : Port} (h : y.answers.Sublist x.answers) :
    immediateCount y ≤ immediateCount x := (h.filter _).length_le

/-! ### One sound port -/

section
variable {x : Port} (h : PortSound x)
include h

theorem portSound_withLevel {level : Nat} (le : level ≤ 255) : PortSound { x with errorLevel := level } :=
  { h with error_le := le }

theorem portSound_withAsm (a : Assembler) : PortSound { x with asm := a } := { h with }

theorem portSound_dropQueue : PortSound x.dropQueue where
  outstanding_eq := by
    have slots := h.outstanding_eq
    simp only [Port.dropQueue, List.length_nil]
    omega
  outstanding_le := (Nat.sub_le _ _).trans h.outstanding_le
  immediate_le := h.immediate_le
  error_le := h.error_le
  isolated_queue _ := rfl
  view_entry := h.view_entry

/-- An immediate answer holds no slot (R154, R155). -/
theorem portSound_immediate (room : immediateCount x < 8) {a : Answer} (kind : a.kind = .immediate) :
    PortSound { x with answers := x.answers ++ [a] } :=
  { h with
    outstanding_eq := by
      have slots := h.outstanding_eq
      simp only [slotAnswers_append, slotAnswers_singleton, kind, if_true]
      omega
    immediate_le := by
      rw [immediateCount_append, kind, if_pos rfl]
      exact room }

theorem portSound_accept (active : x.isolated = false) (free : x.outstanding < 4) (r : Request) :
    PortSound { x with queue := x.queue ++ [r], outstanding := x.outstanding + 1 } :=
  { h with
    outstanding_eq := by
      have slots := h.outstanding_eq
      simp only [List.length_append, List.length_singleton]
      omega
    outstanding_le := free
    isolated_queue := fun isolated => nomatch active.symm.trans isolated }

theorem portSound_takeRate (rate : PortRate) : PortSound (x.takeRate rate) := { h with }

/-- A served request hands its slot on to its answer (R154, R157). -/
theorem portSound_serve {r : Request} {queue : List Request} (waits : x.queue = r :: queue) {a : Answer}
    (kind : a.kind ≠ .immediate) : PortSound { x with queue := queue, answers := x.answers ++ [a] } :=
  { h with
    outstanding_eq := by
      have slots := h.outstanding_eq
      rw [waits, List.length_cons] at slots
      simp only [slotAnswers_append, slotAnswers_singleton, kind, if_false]
      omega
    immediate_le := by
      have same := immediateCount_append x a
      rw [if_neg kind] at same
      exact same.trans_le h.immediate_le
    isolated_queue := fun isolated => nomatch waits.symm.trans (h.isolated_queue isolated) }

/-- The answer that has been sent takes its slot with it (R154, R156). -/
theorem portSound_sent : PortSound x.sent where
  outstanding_eq := by
    have slots := h.outstanding_eq
    have split := slotAnswers_take_add_drop 1 x.answers
    simp only [Port.sent, ← List.drop_one]
    omega
  outstanding_le := (Nat.sub_le _ _).trans h.outstanding_le
  immediate_le := (immediateCount_of_sublist (List.tail_sublist _)).trans h.immediate_le
  error_le := h.error_le
  isolated_queue := h.isolated_queue
  view_entry := h.view_entry

end

theorem portSound_cold (low : Bool) : PortSound (coldPort low) := { cold_portSound with }

theorem portSound_warm {p : PortId} (other : p ≠ .mnt) {x : Port} (h : PortSound x) : PortSound (warmPort p x) := by
  rw [warmPort_of_ne other h]
  have few := slotAnswers_take_add_drop 1 x.answers
  have slots := h.outstanding_eq
  have le := h.outstanding_le
  exact
    { outstanding_eq := (Nat.zero_add _).symm
      outstanding_le := show slotAnswers (x.answers.take 1) ≤ 4 by omega
      immediate_le := (immediateCount_of_sublist (List.take_sublist _ _)).trans h.immediate_le
      error_le := Nat.zero_le _
      isolated_queue := fun isolated => nomatch isolated
      view_entry := Nat.zero_le _ }

theorem portSound_warmSent {x : Port} (h : PortSound x) : PortSound (warmPort .mnt x.sent) := by
  rw [warmPort_sent h]
  exact ⟨rfl, Nat.zero_le _, Nat.zero_le _, Nat.zero_le _, fun _ => rfl, Nat.zero_le _⟩

/-! ### Sound tables of ports -/

section
variable {s t : State}

theorem portsSound_of_ports (h : t.ports = s.ports) (hs : PortsSound s) : PortsSound t := fun p => by
  have same : t.port p = s.port p := by rw [State.port, State.port, h]
  exact same ▸ hs p

theorem portsSound_setPort (hs : PortsSound s) {p : PortId} {x : Port} (hx : PortSound x) :
    PortsSound (s.setPort p x) := fun q => by
  by_cases h : q = p
  · subst h
    rwa [State.setPort_same]
  · rw [State.setPort_ne _ _ _ _ h]
    exact hs q

end

/-! ### The operations of a port link (8.2 to 8.5) -/

section
variable {s : State} (hs : PortsSound s)
include hs

theorem linkErrored_portsSound (p : PortId) : PortsSound (linkErrored p s) := by
  have raised := portSound_withLevel (hs p) (Nat.min_le_left 255 ((s.port p).errorLevel + 1))
  unfold linkErrored
  dsimp only
  split
  · exact portsSound_of_ports (s := s.setPort p _) rfl
      (portsSound_setPort hs { portSound_dropQueue raised with isolated_queue := fun _ => rfl })
  · exact portsSound_of_ports (s := s.setPort p _) rfl (portsSound_setPort hs raised)

theorem discardFrame_portsSound (p : PortId) : PortsSound (discardFrame p s) := by
  rw [discardFrame_eq]
  exact linkErrored_portsSound (portsSound_setPort hs (portSound_withAsm (hs p) _)) p

theorem answeredAtOnce_portsSound {p : PortId} (room : Room s p) (tag : Byte) (result : ResultCode) :
    PortsSound (answeredAtOnce p tag result s) :=
  portsSound_setPort hs
    (portSound_withLevel (portSound_immediate (hs p) room rfl) ((Nat.sub_le _ _).trans (hs p).error_le))

theorem rejoined_portsSound {p : PortId} (room : Room s p) (tag : Byte) : PortsSound (rejoined p tag s) := by
  unfold rejoined
  split
  · exact portsSound_setPort hs
      { portSound_immediate (hs p) room rfl with
        error_le := Nat.zero_le _
        isolated_queue := fun isolated => nomatch isolated }
  · exact answeredAtOnce_portsSound hs room tag .ok

/-- Where the list has no room, an effect that needs it is a link error, which keeps the links sound (R155). -/
theorem needsRoom_portsSound {p : PortId} {effect : State → State} (keeps : Room s p → PortsSound (effect s)) :
    PortsSound (needsRoom p effect s) := by
  by_cases room : Room s p
  · rw [needsRoom_of_room room]
    exact keeps room
  · rw [needsRoom_of_full room]
    exact linkErrored_portsSound hs p

theorem handleRequest_portsSound {p : PortId} {r : Request} (heard : (s.port p).isolated = true → r.kind = .rejoin) :
    PortsSound (handleRequest p r s) := by
  unfold handleRequest
  split
  · exact needsRoom_portsSound hs fun room => rejoinPort_eq p _ s ▸ rejoined_portsSound hs room _
  rename_i other
  split
  · exact needsRoom_portsSound hs fun room => answerAtOnce_eq p _ _ s ▸ answeredAtOnce_portsSound hs room _ _
  split
  · exact needsRoom_portsSound hs fun room => answerAtOnce_eq p _ _ s ▸ answeredAtOnce_portsSound hs room _ _
  rename_i free
  have active : (s.port p).isolated = false := Bool.eq_false_iff.mpr fun isolated => other (heard isolated)
  rw [acceptRequest_eq]
  exact portsSound_setPort hs (portSound_withLevel (portSound_accept (hs p) active (Nat.lt_of_not_le free) r)
    ((Nat.sub_le _ _).trans (hs p).error_le))

theorem handleFrame_portsSound (p : PortId) (tag : Byte) (r : Option Request) : PortsSound (handleFrame p tag r s) := by
  unfold handleFrame
  split
  · split
    · exact hs
    · rename_i heard
      exact handleRequest_portsSound hs fun isolated => Classical.not_not.mp fun other => heard ⟨isolated, other⟩
  · split
    · exact hs
    · refine needsRoom_portsSound hs fun room => ?_
      rw [badRequest_eq]
      exact linkErrored_portsSound (portsSound_setPort hs (portSound_immediate (hs p) room rfl)) p

theorem completeFrame_portsSound (p : PortId) (held : List Byte) : PortsSound (completeFrame p held s) := by
  unfold completeFrame
  split
  · exact handleFrame_portsSound hs _ _ _
  · exact discardFrame_portsSound hs p

theorem portCharacter_portsSound (p : PortId) (b : Byte) : PortsSound (portCharacter p b s) := by
  have stored : ∀ a, PortsSound (s.setPort p { s.port p with asm := a }) := fun a =>
    portsSound_setPort hs (portSound_withAsm (hs p) a)
  unfold portCharacter collected
  dsimp only
  split
  · split
    · exact stored _
    · exact hs
  split
  · exact discardFrame_portsSound (stored _) p
  split
  · exact completeFrame_portsSound (portsSound_setPort (stored _) (portSound_withAsm (stored _ p) _)) p _
  · exact stored _

theorem linkReset_portsSound (p : PortId) : PortsSound (linkReset p s) :=
  portsSound_of_ports (s := s.setPort p _) rfl
    (portsSound_setPort hs (portSound_withAsm (portSound_dropQueue (hs p)) _))

end

/-! ### Starts, the Time Base, and the answers -/

section
variable {s : State} (hs : PortsSound s)
include hs

theorem sendHead_portsSound (p : PortId) : PortsSound (sendHead p s) :=
  portsSound_setPort hs (portSound_sent (hs p))

theorem restartSent_portsSound : PortsSound (restartSent s) := fun p => by
  rw [restartSent, warmStart_port, sendHead]
  by_cases hp : p = .mnt
  · subst hp
    rw [State.setPort_same]
    exact portSound_warmSent (hs .mnt)
  · rw [State.setPort_ne _ _ _ _ hp]
    exact portSound_warm hp (hs p)

theorem endLoad_portsSound (image : List Byte) : PortsSound (endLoad image s) := fun p => by
  by_cases good : imageFaultOf (presented image) = .none
  · rw [endLoad_of_good s good, append_port, enterRunning_port]
    exact { portSound_takeRate (hs p) (portRateOf (presented image)) with }
  · rw [endLoad_of_fault s good, append_port, enterUnconfigured_port]
    exact portSound_takeRate (hs p) _

theorem tick_portsSound : PortsSound (tick s) := fun p => by
  rw [tick_port]
  split
  · exact portSound_withAsm (hs p) _
  · exact hs p

end

theorem coldStart_portsSound (low : PortLevels) (s : State) : PortsSound (coldStart low s) := fun p => by
  rw [coldStart_port]
  exact portSound_cold _

/-! ### A served request -/

/-- `t` has the ports of `s` but for views, and a view cursor that names an entry of its view still does (R164). -/
def ViewsMove (s t : State) : Prop :=
  ∀ p, ∃ v c, t.port p = { s.port p with view := v, viewCursor := c } ∧
    ((s.port p).viewCursor ≤ lastEntry (s.port p).view → c ≤ lastEntry v)

theorem viewsMove_of_ports {s t : State} (h : t.ports = s.ports) : ViewsMove s t := fun p =>
  ⟨_, _, by rw [State.port, h]; rfl, id⟩

theorem viewsMove_setPort {s : State} {p : PortId} {v : View} {c : Nat}
    (entry : (s.port p).viewCursor ≤ lastEntry (s.port p).view → c ≤ lastEntry v) :
    ViewsMove s (s.setPort p { s.port p with view := v, viewCursor := c }) := fun q => by
  by_cases h : q = p
  · subst h
    exact ⟨v, c, State.setPort_same _ _ _, entry⟩
  · exact ⟨_, _, State.setPort_ne _ _ _ _ h, id⟩

/-- The view's last entry is the one that soundness names (R164). -/
theorem view_entry_iff (x : Port) :
    (x.viewCursor ≤ match x.view with
      | .sections => 23
      | .points => 31
      | .lines => 3) ↔ x.viewCursor ≤ lastEntry x.view := by
  cases x.view <;> rfl

theorem portSound_withView {x : Port} (h : PortSound x) {v : View} {c : Nat} (entry : c ≤ lastEntry v) :
    PortSound { x with view := v, viewCursor := c } :=
  { h with view_entry := (view_entry_iff { x with view := v, viewCursor := c }).mpr entry }

theorem placeAnswer_ne {p q : PortId} (h : q ≠ p) (a : Answer) (s : State) : (placeAnswer p a s).port q = s.port q :=
  State.setPort_ne _ _ _ _ h

theorem answerKind_ne_immediate (kind : RequestKind) (result : ResultCode) : answerKind kind result ≠ .immediate := by
  unfold answerKind
  split <;> decide

theorem examine_viewsMove {rule : PortId → Request → State → Reply} {p : PortId} {r : Request} {s : State}
    (moves : ViewsMove s (rule p r s).state) : ViewsMove s (examine rule p r s).state := by
  unfold examine
  split
  · split
    · exact viewsMove_of_ports rfl
    · exact moves
  · exact viewsMove_of_ports rfl

/-- The queue's head is the request that the engine takes (R157). -/
theorem queue_of_nextRequest {s : State} {p : PortId} {r : Request} {one : RingOne} {two : RingTwo}
    (h : nextRequest s = some (p, r, one, two)) : (s.port p).queue = r :: (s.port p).queue.tail := by
  unfold nextRequest at h
  split at h
  · obtain ⟨head, isHead, same⟩ := Option.map_eq_some_iff.mp h
    simp only [Prod.mk.injEq] at same
    obtain ⟨rfl, rfl, -, -⟩ := same
    exact List.eq_cons_of_mem_head? isHead
  · exact nomatch h

theorem takeRequest_port_same (p : PortId) (one : RingOne) (two : RingTwo) (s : State) :
    (takeRequest p one two s).port p = { s.port p with queue := (s.port p).queue.tail } := State.setPort_same _ _ _

theorem takeRequest_port_ne {p q : PortId} (h : q ≠ p) (one : RingOne) (two : RingTwo) (s : State) :
    (takeRequest p one two s).port q = s.port q := State.setPort_ne _ _ _ _ h

/-- Between the request taken and the answer placed the slot is the engine's: the two together keep the links sound. -/
theorem serve_portsSound {rule : PortId → Request → State → Reply} {s : State} (hs : PortsSound s) {p : PortId}
    {r : Request} {one : RingOne} {two : RingTwo} (waits : (s.port p).queue = r :: (s.port p).queue.tail)
    (moves : ∀ u, ViewsMove u (rule p r u).state) : PortsSound (serve rule p r (takeRequest p one two s)) := fun q => by
  obtain ⟨v, c, port, entry⟩ := examine_viewsMove (moves (takeRequest p one two s)) q
  have named := (view_entry_iff (s.port q)).mp (hs q).view_entry
  unfold serve
  dsimp only
  by_cases h : q = p
  · subst h
    rw [takeRequest_port_same] at port entry
    rw [placeAnswer, State.setPort_same, port]
    exact portSound_withView (portSound_serve (hs q) waits (answerKind_ne_immediate _ _)) (entry named)
  · rw [takeRequest_port_ne h] at port entry
    rw [placeAnswer_ne h, port]
    exact portSound_withView (hs q) (entry named)

theorem selectViewRule_viewsMove (p : PortId) (r : Request) (s : State) : ViewsMove s (selectViewRule p r s).state := by
  unfold selectViewRule
  split
  · exact viewsMove_setPort fun _ => Nat.zero_le _
  · exact viewsMove_of_ports rfl

theorem readNextRule_viewsMove (p : PortId) (r : Request) (s : State) : ViewsMove s (readNextRule p r s).state := by
  refine viewsMove_setPort fun _ => ?_
  split
  · exact Nat.zero_le _
  · rename_i inside
    exact Nat.lt_of_not_le inside

theorem journalReadRule_ports (p : PortId) (r : Request) (s : State) :
    (journalReadRule p r s).state.ports = s.ports := by
  unfold journalReadRule
  dsimp only
  split <;> rfl

theorem journalSeekRule_ports (p : PortId) (r : Request) (s : State) :
    (journalSeekRule p r s).state.ports = s.ports := by
  unfold journalSeekRule
  split <;> rfl

theorem setInhibitRule_ports (p : PortId) (r : Request) (s : State) : (setInhibitRule p r s).state.ports = s.ports := by
  unfold setInhibitRule
  repeat' split
  case h_2.isFalse.isFalse => exact (setInhibitFlag_unlinked _ _ _).ports s
  all_goals rfl

theorem proposeResetRule_ports (p : PortId) (r : Request) (s : State) :
    (proposeResetRule p r s).state.ports = s.ports := by
  unfold proposeResetRule proposeChecked
  dsimp only
  repeat' split
  all_goals rfl

theorem confirmResetRule_ports (p : PortId) (r : Request) (s : State) :
    (confirmResetRule p r s).state.ports = s.ports := by
  unfold confirmResetRule
  split
  · rfl
  dsimp only
  split
  · exact (endTxn_only _ _ _ _).ports
  split
  · rfl
  split
  · split
    · exact ((addConfirmation_only _ _ _ _).trans (completeTxn_only _ _ _)).ports
    · exact ((addConfirmation_only _ _ _ _).trans (endTxn_only _ _ _ _)).ports
  · exact (addConfirmation_only _ _ _ _).ports

theorem cancelResetRule_ports (p : PortId) (r : Request) (s : State) :
    (cancelResetRule p r s).state.ports = s.ports := by
  unfold cancelResetRule
  repeat' split
  case h_2.isFalse => exact (endTxn_only _ _ _ _).ports
  all_goals rfl

/-! ### Effects of the other blocks -/

theorem takeDelivery_ports (l : LineId) (s : State) : (takeDelivery l s).ports = s.ports := by
  unfold takeDelivery
  split
  · rfl
  · exact (supervise_only l _ _).ports

theorem expireTxn_ports (k : SlotId) (s : State) : (expireTxn k s).ports = s.ports := by
  unfold expireTxn
  split
  · exact (endTxn_only _ _ _ s).ports
  · rfl

/-! ### Every command -/

section
variable {s t : State} (hs : PortsSound s)
include hs

theorem event_portsSound {can : Bool} {eff : State → State} (h : event can eff s = .next t)
    (keeps : PortsSound (eff s)) : PortsSound t := by
  obtain ⟨-, rfl⟩ | ⟨-, rfl⟩ := event_next h
  · exact keeps
  · exact hs

/-- A command of another block leaves the port links alone. -/
theorem event_samePorts {can : Bool} {eff : State → State} (h : event can eff s = .next t)
    (same : (eff s).ports = s.ports) : PortsSound t := event_portsSound hs h (portsSound_of_ports same hs)

theorem engineStep_portsSound {kind : RequestKind} {rule : PortId → Request → State → Reply}
    (h : engineStep kind rule s = .next t) (moves : ∀ p r u, ViewsMove u (rule p r u).state) : PortsSound t := by
  refine event_portsSound hs h ?_
  unfold takeAndServe
  split
  · rename_i p r one two next
    exact serve_portsSound hs (queue_of_nextRequest next) (moves p r)
  · exact hs

theorem engineStep_samePorts {kind : RequestKind} {rule : PortId → Request → State → Reply}
    (h : engineStep kind rule s = .next t) (same : ∀ p r u, (rule p r u).state.ports = u.ports) : PortsSound t :=
  engineStep_portsSound hs h fun p r u => viewsMove_of_ports (same p r u)

end

theorem exec_keeps_ports (c : Instr) (s t : State) (hs : PortsSound s) (h : exec c s = .next t) : PortsSound t := by
  cases c with
  | resetInputLow | trkFramingError | trkBreak | trkBreakEnd | trkGapTimeout | lineSilenceExpiry | dwellTimerExpiry =>
    dsimp only [exec, execResetInputLow, execTrkFramingError, execTrkBreak, execTrkBreakEnd, execTrkGapTimeout,
      execLineSilenceExpiry, execDwellTimerExpiry] at h
    exact event_samePorts hs h rfl
  | trkGoodCharacter l b early => exact event_samePorts hs h (lineCharacter_only l b s).ports
  | telegramDelivery l => exact event_samePorts hs h (takeDelivery_ports l s)
  | pointSilenceExpiry d => exact event_samePorts hs h (pointSilent_only d s).ports
  | handOff span =>
    cases span with
    | whole => exact event_samePorts hs h (handOffAll_only s).ports
    | oneStep => exact event_samePorts hs h (handOffOnce_only s).ports
  | clearingTimerExpiry n => exact event_samePorts hs h (putSection_only _ _ _ s).ports
  | confirmWindowExpiry k => exact event_samePorts hs h (expireTxn_ports k s)
  | coldStart low => exact event_portsSound hs h (coldStart_portsSound low s)
  | loadEnd image => exact event_portsSound hs h (endLoad_portsSound hs image)
  | warmStart => exact event_portsSound hs h (restartSent_portsSound hs)
  | answerSent p =>
    refine event_portsSound hs h ?_
    split
    · exact restartSent_portsSound hs
    · exact sendHead_portsSound hs p
  | timeBaseMillisecond => exact event_portsSound hs h (tick_portsSound hs)
  | portGoodCharacter p b => exact event_portsSound hs h (portCharacter_portsSound hs p b)
  | rejoin p tag => exact event_portsSound hs h (handleFrame_portsSound hs p tag _)
  | portFramingError p | portGapTimeout p => exact event_portsSound hs h (discardFrame_portsSound hs p)
  | portBreak p => exact event_portsSound hs h (linkReset_portsSound hs p)
  | portBreakEnd p =>
    unfold exec execPortBreakEnd at h
    exact event_portsSound hs h (portsSound_setPort hs (portSound_withAsm (hs p) _))
  | status | summary | identify | setMask | clearStatistics | restart =>
    exact engineStep_samePorts hs h fun _ _ _ => rfl
  | readSection => exact engineStep_samePorts hs h fun p r u => congrArg State.ports (readSectionRule_state p r u)
  | readPoint => exact engineStep_samePorts hs h fun p r u => congrArg State.ports (readPointRule_state p r u)
  | readLine => exact engineStep_samePorts hs h fun p r u => congrArg State.ports (readLineRule_state p r u)
  | selectView => exact engineStep_portsSound hs h selectViewRule_viewsMove
  | readNext => exact engineStep_portsSound hs h readNextRule_viewsMove
  | journalRead => exact engineStep_samePorts hs h journalReadRule_ports
  | journalSeek => exact engineStep_samePorts hs h journalSeekRule_ports
  | setInhibit => exact engineStep_samePorts hs h setInhibitRule_ports
  | proposeReset => exact engineStep_samePorts hs h proposeResetRule_ports
  | confirmReset => exact engineStep_samePorts hs h confirmResetRule_ports
  | cancelReset => exact engineStep_samePorts hs h cancelResetRule_ports

/-- Settles O54: every command keeps each port's link sound, by the operation of its chapter. -/
theorem portsKept : Obligations.PortsKept := by
  unfold Obligations.PortsKept
  exact step_keeps (fun _ _ h => h) exec_keeps_ports

end Sys2Proof.Proofs
end

section
/-! Proofs: reception at a master port (8.2, 8.3): characters, errors and breaks of the line, and the frame that the
last character completes, by the rows of R150. -/

namespace Sys2Proof.Proofs

open Sys2Proof.Machine Sys2Proof.Safety Sys2Proof.Claims

/-! ### A good character, case by case (R145) -/

theorem portTakes_iff (p : PortId) (s : State) :
    portTakes p s = true ↔ s.resetLow = false ∧ (s.port p).asm.breakFlag = false := by
  simp only [portTakes, State.live, Bool.and_eq_true, Bool.not_eq_true']

section
variable {p : PortId} {s : State}

theorem portCharacter_marker (search : (s.port p).asm.state = .search) :
    portCharacter p 0x5A s = withPort s p fun x => { x with asm := x.asm.begin portGapTime } := by
  simp only [portCharacter, search, requestMarker, if_true, withPort]

theorem portCharacter_other (search : (s.port p).asm.state = .search) {b : Byte} (other : b ≠ 0x5A) :
    portCharacter p b s = s := by
  simp only [portCharacter, search, requestMarker, other, if_false]

theorem portCharacter_collect (collect : (s.port p).asm.state = .collect) (b : Byte) :
    portCharacter p b s = collected p ((s.port p).asm.held ++ [b])
      (withPort s p fun x => { x with asm := x.asm.store portGapTime b }) := by
  simp only [portCharacter, collect, withPort]
  rfl

/-- Back in SEARCH the port is the same, whatever its assembler has stored. -/
theorem searching_stored (a : Assembler) (flag : a.breakFlag = (s.port p).asm.breakFlag) :
    withPort (withPort s p fun x => { x with asm := a }) p searching = withPort s p searching := by
  simp only [withPort, State.setPort_same, setPort_setPort, searching, flag]

/-- The third byte announces more than twelve payload bytes: the frame is abandoned (R145, R147). -/
theorem portCharacter_long (collect : (s.port p).asm.state = .collect) {b : Byte}
    (third : ((s.port p).asm.held ++ [b]).length = 3) (long : 12 < announced ((s.port p).asm.held ++ [b])) :
    portCharacter p b s = linkErrored p (withPort s p searching) := by
  rw [portCharacter_collect collect, collected, if_pos ⟨third, long⟩, discardFrame_eq]
  exact congrArg (linkErrored p) (searching_stored _ rfl)

/-- The frame is complete with its announced payload and its CRC (R145). -/
theorem portCharacter_last (collect : (s.port p).asm.state = .collect) {b : Byte}
    (full : ((s.port p).asm.held ++ [b]).length = 5 + announced ((s.port p).asm.held ++ [b])) :
    portCharacter p b s = completeFrame p ((s.port p).asm.held ++ [b]) (withPort s p searching) := by
  rw [portCharacter_collect collect, collected, if_neg (by omega), if_pos (by omega)]
  exact congrArg (completeFrame p _) (searching_stored ((s.port p).asm.store portGapTime b) rfl)

theorem portCharacter_stored (collect : (s.port p).asm.state = .collect) {b : Byte}
    (short : ((s.port p).asm.held ++ [b]).length = 3 → announced ((s.port p).asm.held ++ [b]) ≤ 12)
    (unfinished : 3 ≤ ((s.port p).asm.held ++ [b]).length →
      ((s.port p).asm.held ++ [b]).length < 5 + announced ((s.port p).asm.held ++ [b])) :
    portCharacter p b s = withPort s p fun x => { x with asm := x.asm.store portGapTime b } := by
  rw [portCharacter_collect collect, collected, if_neg fun ⟨third, long⟩ => Nat.not_le_of_lt long (short third),
    if_neg fun ⟨three, full⟩ => Nat.not_le_of_lt (unfinished three) full]

end

/-- The third byte held is the announced payload length (R145). -/
theorem announced_third {held : List Byte} {b : Byte} (third : (held ++ [b]).length = 3) :
    announced (held ++ [b]) = b.toNat := by
  have two : held.length = 2 := by simpa using third
  simp [announced, byteAt, ← two]

/-- Settles O40: a character in SEARCH, and the three cases of a byte in COLLECT that does not complete a frame. -/
theorem portCharacter : Obligations.PortCharacter := by
  unfold Obligations.PortCharacter
  intro s p b high flag x held
  have takes : portTakes p s = true := (portTakes_iff p s).mpr ⟨high, flag⟩
  refine ⟨?_, fun search other => ?_, fun collect third long => ?_, fun collect unfinished => ?_⟩
  · rintro search rfl
    refine settled_event takes ?_
    rw [portCharacter_marker search, withPort, Assembler.begin, flag]
    rfl
  · exact settled_event takes (portCharacter_other search other)
  · exact settled_event takes (portCharacter_long collect third ((announced_third third).symm ▸ long))
  · refine settled_event takes ?_
    rw [portCharacter_stored collect, withPort, Assembler.store, flag, collect]
    · rfl
    · intro third
      rw [announced_third third]
      obtain fewer | ⟨-, short⟩ | ⟨more, -⟩ := unfinished
      · exact absurd third fewer.ne
      · exact short
      · exact absurd third more.ne'
    · intro three
      obtain fewer | ⟨third, -⟩ | ⟨-, before⟩ := unfinished
      · exact absurd three (Nat.not_le_of_lt fewer)
      · exact third.trans_lt (by omega)
      · exact before

/-! ### Errors and breaks of the line (R146 to R148) -/

/-- Settles O42: each event's condition on the port, and the port after it. -/
theorem portLineEvents : Obligations.PortLineEvents := by
  unfold Obligations.PortLineEvents
  intro s p high x
  have takes : x.asm.breakFlag = false → portTakes p s = true := fun flag => (portTakes_iff p s).mpr ⟨high, flag⟩
  refine ⟨fun flag => ?_, fun collect due => ?_, fun flag => ?_, fun inBreak => exec_portBreakEnd high inBreak⟩
  · exact settled_event (takes flag) (discardFrame_eq p s)
  · refine settled_event ?_ (discardFrame_eq p s)
    simp only [State.live, high, Bool.not_false, Bool.true_and, Bool.and_eq_true, beq_iff_eq, timerDue_iff]
    exact ⟨collect, due⟩
  · exact settled_event (takes flag) (linkReset_eq p s)

/-! ### Well-formed requests (R149, 10.3) -/

/-- The model's codes and lengths, entry by entry of the table. -/
theorem requestCodes_sound : ∀ e ∈ requestCodes, requestOfCode e.2.1 = some e.1 ∧ requestLength e.1 = e.2.2 := by
  decide

/-- Every code that names a request is in the table. -/
theorem requestCodes_complete {code : Byte} {kind : RequestKind} (h : requestOfCode code = some kind) :
    (kind, code, requestLength kind) ∈ requestCodes := by
  have number : ∀ n : Nat, code.toNat = n → code = BitVec.ofNat 8 n := fun n value => by
    rw [← value, BitVec.ofNat_toNat, BitVec.setWidth_eq]
  unfold requestOfCode at h
  split at h
  case h_19 => exact nomatch h
  all_goals
    rename_i value
    obtain rfl := Option.some.inj h
    rw [number _ value]
    decide

theorem asks_iff {kind : RequestKind} {code : Byte} {k : Nat} :
    (kind, code, k) ∈ requestCodes ↔ requestOfCode code = some kind ∧ requestLength kind = k :=
  ⟨requestCodes_sound _, fun ⟨named, length⟩ => length ▸ requestCodes_complete named⟩

section
variable {tag code : Byte} {payload : List Byte}

theorem requestOfFrame_of_asks {kind : RequestKind} (asks : (kind, code, payload.length) ∈ requestCodes) :
    requestOfFrame tag code payload = some ⟨kind, tag, payload⟩ := by
  obtain ⟨named, length⟩ := asks_iff.mp asks
  rw [requestOfFrame, named]
  exact if_pos length.symm

theorem asks_of_requestOfFrame {r : Request} (h : requestOfFrame tag code payload = some r) :
    (r.kind, code, payload.length) ∈ requestCodes := by
  unfold requestOfFrame at h
  split at h
  · rename_i kind named
    obtain ⟨length, request⟩ := Option.ite_none_right_eq_some.mp h
    obtain rfl := Option.some.inj request
    exact asks_iff.mpr ⟨named, length.symm⟩
  · exact nomatch h

theorem requestOfFrame_of_malformed (none : ∀ kind, (kind, code, payload.length) ∉ requestCodes) :
    requestOfFrame tag code payload = Option.none :=
  Option.eq_none_iff_forall_ne_some.mpr fun r h => none r.kind (asks_of_requestOfFrame h)

end

/-! ### The rows of R150 -/

section
variable {p : PortId} {tag : Byte} {r : Request} {s : State}

theorem handleFrame_isolated (isolated : (s.port p).isolated = true) {asked : Option Request}
    (other : ∀ r, asked = some r → r.kind ≠ .rejoin) : handleFrame p tag asked s = s := by
  unfold handleFrame
  split
  · exact if_pos ⟨isolated, other _ rfl⟩
  · exact if_pos isolated

theorem handleFrame_malformed (active : ¬ (s.port p).isolated = true) :
    handleFrame p tag none s = needsRoom p (badRequest p tag) s := if_neg active

theorem handleFrame_rejoin (rejoin : r.kind = .rejoin) :
    handleFrame p tag (some r) s = needsRoom p (rejoinPort p r.tag) s :=
  (if_neg fun ignored => ignored.2 rejoin).trans (if_pos rejoin)

/-- A REJOIN is carried out where its OK has room, and is a link error where it has none (R153, R155). -/
theorem handleFrame_rejoin_eq (rejoin : r.kind = .rejoin) :
    (Room s p → handleFrame p tag (some r) s = rejoined p r.tag s) ∧
      (¬ Room s p → handleFrame p tag (some r) s = linkErrored p s) := by
  rw [handleFrame_rejoin rejoin]
  exact ⟨fun room => (needsRoom_of_room room _).trans (rejoinPort_eq p _ s), fun full => needsRoom_of_full full _⟩

theorem handleFrame_request (active : ¬ (s.port p).isolated = true) (other : r.kind ≠ .rejoin) :
    handleFrame p tag (some r) s =
      if s.part = .starting then needsRoom p (answerAtOnce p r.tag .starting) s
      else if 4 ≤ (s.port p).outstanding then needsRoom p (answerAtOnce p r.tag .busy) s
      else acceptRequest p r s :=
  (if_neg fun ignored => active ignored.1).trans (if_neg other)

theorem handleFrame_starting (active : ¬ (s.port p).isolated = true) (other : r.kind ≠ .rejoin)
    (starting : s.part = .starting) (room : Room s p) :
    handleFrame p tag (some r) s = answeredAtOnce p r.tag .starting s := by
  rw [handleFrame_request active other, if_pos starting, needsRoom_of_room room, answerAtOnce_eq]

theorem handleFrame_busy (active : ¬ (s.port p).isolated = true) (other : r.kind ≠ .rejoin)
    (started : s.part ≠ .starting) (full : 4 ≤ (s.port p).outstanding) (room : Room s p) :
    handleFrame p tag (some r) s = answeredAtOnce p r.tag .busy s := by
  rw [handleFrame_request active other, if_neg started, if_pos full, needsRoom_of_room room, answerAtOnce_eq]

theorem handleFrame_unanswered (active : ¬ (s.port p).isolated = true) (other : r.kind ≠ .rejoin)
    (atOnce : s.part = .starting ∨ 4 ≤ (s.port p).outstanding) (noRoom : ¬ Room s p) :
    handleFrame p tag (some r) s = linkErrored p s := by
  rw [handleFrame_request active other]
  by_cases starting : s.part = .starting
  · rw [if_pos starting, needsRoom_of_full noRoom]
  · rw [if_neg starting, if_pos (atOnce.resolve_left starting), needsRoom_of_full noRoom]

theorem handleFrame_accepted (active : ¬ (s.port p).isolated = true) (other : r.kind ≠ .rejoin)
    (started : s.part ≠ .starting) (free : (s.port p).outstanding < 4) :
    handleFrame p tag (some r) s = withPort s p fun x =>
      { x with
        errorLevel := x.errorLevel - 1
        queue := x.queue ++ [r]
        outstanding := x.outstanding + 1 } := by
  rw [handleFrame_request active other, if_neg started, if_neg (Nat.not_le_of_lt free), acceptRequest_eq]

end

/-! ### The frame that the last character completes -/

section
variable {p : PortId} {s : State}

@[simp] theorem withPort_port (f : Port → Port) : (withPort s p f).port p = f (s.port p) := State.setPort_same _ _ _

theorem room_searching : Room (withPort s p searching) p ↔ Room s p := by
  rw [Room, Room, withPort_port]
  rfl

/-- The CRC that the frame carries is that of its bytes from the tag to the payload's end (R145, R180). -/
def CrcAgrees (held : List Byte) : Prop := crc16 (held.take (3 + announced held)) = halfAt held (3 + announced held)

theorem requestGood_iff (held : List Byte) : requestGood held = true ↔ CrcAgrees held := beq_iff_eq

theorem completeFrame_bad {held : List Byte} (bad : ¬ CrcAgrees held) :
    completeFrame p held s = linkErrored p (withPort s p searching) := by
  rw [completeFrame, if_neg fun good => bad ((requestGood_iff held).mp good), discardFrame_eq]

theorem completeFrame_good {held : List Byte} (good : CrcAgrees held) :
    completeFrame p held s = handleFrame p (byteAt held 0)
      (requestOfFrame (byteAt held 0) (byteAt held 1) ((held.drop 3).take (announced held))) s :=
  if_pos ((requestGood_iff held).mpr good)

end

/-- Settles O41: the CRC, then the rows of R150 for the request that the frame names, or for none. -/
theorem portFrameHandled : Obligations.PortFrameHandled := by
  unfold Obligations.PortFrameHandled
  refine ⟨?frame, ?rejoin⟩
  case frame =>
    intro s p b high flag collect held k full s0 tag good asks isolated
    have sized : ((held.drop 3).take k).length = k := by
      rw [List.length_take, List.length_drop]
      omega
    have asked : ∀ kind, asks kind → requestOfFrame tag (byteAt held 1) ((held.drop 3).take k) =
        some ⟨kind, tag, (held.drop 3).take k⟩ := fun kind h => requestOfFrame_of_asks (sized.symm ▸ h)
    have malformed : (∀ kind, ¬ asks kind) → requestOfFrame tag (byteAt held 1) ((held.drop 3).take k) = none :=
      fun h => requestOfFrame_of_malformed (sized.symm ▸ h)
    have port : s0.port p = searching (s.port p) := withPort_port _
    have active : ¬ isolated → ¬ (s0.port p).isolated = true := fun h => port ▸ h
    have outstanding : (s0.port p).outstanding = (s.port p).outstanding := by rw [port]; rfl
    have room : Room s0 p ↔ Room s p := room_searching
    obtain ⟨t, step, settled⟩ := settled_event ((portTakes_iff p s).mpr ⟨high, flag⟩) (portCharacter_last collect full)
    have handled : ∀ {r u}, good → requestOfFrame tag (byteAt held 1) ((held.drop 3).take k) = r →
        handleFrame p tag r s0 = u → Settled t u := by
      rintro _ _ ok rfl rfl
      exact completeFrame_good (p := p) (s := s0) ok ▸ settled
    refine ⟨t, step, fun bad => ?crc, fun ok alone noRejoin => ?ignored, fun ok up none fits => ?malformed,
      fun ok rejoin fits => ?rejoined, fun kind ok up asks other => ⟨fun starting fits => ?starting,
        fun started busy fits => ?busy, fun atOnce noRoom => ?unanswered, fun started free => ?accepted⟩,
      fun ok needs noRoom => ?noRoom⟩
    case crc =>
      have back : withPort s0 p searching = s0 := searching_stored (searching (s.port p)).asm rfl
      rwa [completeFrame_bad bad, back] at settled
    case ignored =>
      refine handled ok rfl (handleFrame_isolated (port ▸ alone) fun r h rejoin => noRejoin ?_)
      have named := asks_of_requestOfFrame h
      rwa [sized, rejoin] at named
    case malformed =>
      refine handled ok (malformed none) ?_
      rw [handleFrame_malformed (active up), needsRoom_of_room (room.mpr fits), badRequest_eq]
    case rejoined => exact handled ok (asked _ rejoin) ((handleFrame_rejoin_eq rfl).1 (room.mpr fits))
    case starting =>
      exact handled ok (asked _ asks) (handleFrame_starting (active up) other starting (room.mpr fits))
    case busy =>
      exact handled ok (asked _ asks)
        (handleFrame_busy (active up) other started (outstanding.symm ▸ busy) (room.mpr fits))
    case unanswered =>
      exact handled ok (asked _ asks)
        (handleFrame_unanswered (active up) other (outstanding.symm ▸ atOnce) (noRoom ∘ room.mp))
    case accepted =>
      exact handled ok (asked _ asks)
        (handleFrame_accepted (active up) other started (outstanding.symm ▸ free))
    case noRoom =>
      obtain ⟨none, up⟩ | rejoin := needs
      · exact handled ok (malformed none)
          ((handleFrame_malformed (active up)).trans (needsRoom_of_full (noRoom ∘ room.mp) _))
      · exact handled ok (asked _ rejoin) ((handleFrame_rejoin_eq rfl).2 (noRoom ∘ room.mp))
  case rejoin =>
    intro s p tag high flag search
    have can : (portTakes p s && (s.port p).asm.state == .search) = true := by
      rw [(portTakes_iff p s).mpr ⟨high, flag⟩, search]
      rfl
    obtain ⟨fits, full⟩ := handleFrame_rejoin_eq (p := p) (s := s) (tag := tag) (r := ⟨.rejoin, tag, []⟩) rfl
    obtain ⟨t, step, settled⟩ := settled_event can (s := s) (eff := handleFrame p tag (some ⟨.rejoin, tag, []⟩)) rfl
    exact ⟨t, step, fun room => fits room ▸ settled, fun noRoom => full noRoom ▸ settled⟩

end Sys2Proof.Proofs
end

section
/-! Proofs: SELECT VIEW and READ NEXT (R163, R164), and the bytes of an answer frame (R156, R180). -/

namespace Sys2Proof.Proofs

open Sys2Proof.Machine Sys2Proof.Safety Sys2Proof.Claims

/-! ### SELECT VIEW (R163) and READ NEXT (R164) -/

/-- Port `p` looks at entry `c` of view `v`. -/
def lookingAt (p : PortId) (v : View) (c : Nat) (s : State) : State :=
  s.setPort p { s.port p with view := v, viewCursor := c }

section
variable {s : State} {p : PortId} {r : Request} {queue : List Request} {one : RingOne} {two : RingTwo}

/-- The view and the queue are different fields of the port: the view may as well be set before the request is taken. -/
theorem lookingAt_takeRequest (v : View) (c : Nat) :
    lookingAt p v c (takeRequest p one two s) = takeRequest p one two (lookingAt p v c s) := by
  have taken : ∀ u, takeRequest p one two u =
      { u.setPort p { u.port p with queue := (u.port p).queue.tail } with arbOne := one, arbTwo := two } := fun _ => rfl
  have looking : ∀ u, lookingAt p v c { u with arbOne := one, arbTwo := two } =
      { lookingAt p v c u with arbOne := one, arbTwo := two } := fun _ => rfl
  rw [taken, taken, looking]
  simp only [lookingAt, State.setPort_same, setPort_setPort]

/-- A request that moves the view of its port and nothing else, served (R157). -/
theorem engineStep_looking (takes : Takes s p r queue one two) (running : s.part = .running)
    (right : permitted p r.kind = true) (other : r.kind ≠ .restart) {rule : PortId → Request → State → Reply}
    {payload : List Byte} {v : View} {c : Nat}
    (reply : rule p r (takeRequest p one two s) = okay payload (lookingAt p v c (takeRequest p one two s))) :
    ∃ t, engineStep r.kind rule s = .next t ∧
      Settled t (Answered (lookingAt p v c s) p r queue one two .ok payload) := by
  have waits : ((lookingAt p v c s).port p).queue = r :: queue := by
    rw [lookingAt, State.setPort_same]
    exact queue_of_takes takes
  refine ⟨_, engineStep_of_takes takes rule, ?_⟩
  rw [serve_of_reply ((examine_running running right).trans reply)]
  simp only [okay, answerKind, other, false_and, if_false, lookingAt_takeRequest, placeAnswer_served waits]
  exact settled_settle _

theorem viewOfByte_beyond {b : Byte} (h : 3 ≤ b.toNat) : viewOfByte b = none := by
  have not : ∀ m : Byte, m.toNat < 3 → b ≠ m := fun m small same => by
    subst same
    omega
  rw [viewOfByte, if_neg (not 0 (by decide)), if_neg (not 1 (by decide)), if_neg (not 2 (by decide))]

theorem viewOfByte_named {b : Byte} (h : b.toNat < 3) :
    viewOfByte b = some (if b.toNat = 0 then .sections else if b.toNat = 1 then .points else .lines) := by
  obtain rfl | rfl | rfl : b = 0 ∨ b = 1 ∨ b = 2 := by bv_omega
  all_goals rfl

theorem selectViewRule_beyond (h : 3 ≤ (r.byte 0).toNat) (u : State) : selectViewRule p r u = refuse .range u := by
  rw [selectViewRule, viewOfByte_beyond h]

theorem selectViewRule_named (h : (r.byte 0).toNat < 3) (u : State) :
    selectViewRule p r u = okay [] (lookingAt p
      (if (r.byte 0).toNat = 0 then .sections else if (r.byte 0).toNat = 1 then .points else .lines) 0 u) := by
  rw [selectViewRule, viewOfByte_named h]
  rfl

/-- At a cursor that names an entry of the view, the wrap mark is set exactly at the last one (R164). -/
theorem readNextRule_entry {u : State} {v : View} {c : Nat} (view : (u.port p).view = v)
    (cursor : (u.port p).viewCursor = c) (entry : c ≤ lastEntry v) :
    readNextRule p r u = okay ((if c = lastEntry v then 1 else 0) :: viewRecord v c u)
      (lookingAt p v (if c = lastEntry v then 0 else c + 1) u) := by
  subst view cursor
  have last : lastEntry (u.port p).view ≤ (u.port p).viewCursor ↔ (u.port p).viewCursor = lastEntry (u.port p).view :=
    ⟨entry.antisymm, Eq.ge⟩
  simp only [readNextRule, last]
  rfl

end

theorem ofNat_val {k : Nat} [NeZero k] (i : Fin k) : Fin.ofNat k i.val = i := Fin.ext (Nat.mod_eq_of_lt i.isLt)

theorem viewRecord_sections (n : SectionId) (u : State) : viewRecord .sections n.val u = sectionRecord n u := by
  rw [viewRecord, ofNat_val]

theorem viewRecord_points (d : PointId) (u : State) : viewRecord .points d.val u = pointRecord d u := by
  rw [viewRecord, ofNat_val]

theorem viewRecord_lines (l : LineId) (u : State) : viewRecord .lines l.val u = lineRecord l u := by
  rw [viewRecord, ofNat_val]

/-- Settles O48: the two rules, each a move of the asking port's view. -/
theorem viewRequests : Obligations.ViewRequests := by
  unfold Obligations.ViewRequests
  intro s p r queue one two takes running n x
  refine ⟨fun kind => ?select, fun kind => ?next⟩
  case select =>
    have right : permitted p r.kind = true := by rw [kind]; rfl
    refine ⟨fun beyond => ?_, fun named => ?_⟩
    · have refused := engineStep_refused takes (by decide)
        ((examine_running running right).trans (selectViewRule_beyond beyond _))
      rwa [kind] at refused
    · have moved := engineStep_looking takes running right (by rw [kind]; decide) (selectViewRule_named named _)
      rwa [kind] at moved
  case next =>
    intro last entry
    have right : permitted p r.kind = true := by rw [kind]; rfl
    have port := takeRequest_port_same p one two s
    obtain ⟨t, step, settled⟩ := engineStep_looking takes running right (by rw [kind]; decide)
      (readNextRule_entry (congrArg Port.view port) (congrArg Port.viewCursor port) entry)
    rw [kind] at step
    refine ⟨t, _, step, settled, fun m view named => ?_, fun d view named => ?_, fun l view named => ?_⟩
    all_goals
      change (s.port p).view = _ at view
      change _ = (s.port p).viewCursor at named
      rw [view, ← named]
    · rw [viewRecord_sections]
      exact sectionRecord_answer m s
    · rw [viewRecord_points]
      exact pointRecord_answer d s
    · rw [viewRecord_lines]
      exact lineRecord_is l s

/-! ### The bytes of an answer frame (R156, R180) -/

theorem resultByte_mem (x : ResultCode) : (x, resultByte x) ∈ resultCodes := by cases x <;> decide

/-- The bytes of a frame that the CRC covers: from the tag to the end of the payload (R180). -/
def answerBody (a : Answer) : List Byte := [a.tag, resultByte a.result, byteOf a.payload.length] ++ a.payload

theorem answerBody_length (a : Answer) : (answerBody a).length = 3 + a.payload.length := by
  simp only [answerBody, List.length_append, List.length_cons, List.length_nil]

theorem answerFrame_eq (a : Answer) :
    answerFrame a = 0xA5 :: (answerBody a ++
      [byteOf ((crc16 (answerBody a)).toNat / 256), byteOf (crc16 (answerBody a)).toNat]) := rfl

/-- The two bytes behind a run of bytes are the field there (R179). -/
theorem halfAt_append (bs : List Byte) (hi lo : Byte) : halfAt (bs ++ [hi, lo]) bs.length = hi ++ lo := by
  simp [halfAt, byteAt]

/-- Settles O44: the frame is its start byte, its body and the CRC of its body. -/
theorem answerFrameBytes : Obligations.AnswerFrameBytes := by
  unfold Obligations.AnswerFrameBytes
  refine ⟨?frame, ?digits, rfl⟩
  case frame =>
    intro a small f m
    refine ⟨?length, rfl, rfl, resultByte_mem _, byteOf_toNat (by omega), ?payload, ?crc⟩
    case length =>
      simp only [f, answerFrame_eq, List.length_cons, List.length_append, List.length_nil, answerBody_length]
      omega
    case payload => exact List.take_left
    case crc =>
      have body : (f.drop 1).take (3 + m) = answerBody a := by
        rw [← answerBody_length]
        exact List.take_left
      have field := halfAt_append (0xA5 :: answerBody a) (byteOf ((crc16 (answerBody a)).toNat / 256))
        (byteOf (crc16 (answerBody a)).toNat)
      rw [List.length_cons, answerBody_length, byteOf_append_byteOf, BitVec.ofNat_toNat, BitVec.setWidth_eq] at field
      rw [body, ← field, Nat.add_right_comm]
      rfl
  case digits => decide +kernel

end Sys2Proof.Proofs
end

section
/-! Proofs: the arbiter (R160, R161): its choice by the two rings and their pointers, the fairness of the turns, and the
fixed order. -/

namespace Sys2Proof.Proofs

open Sys2Proof.Machine Sys2Proof.Safety Sys2Proof.Claims

/-! ### Requests that wait -/

theorem hasRequest_iff (p : PortId) (s : State) : hasRequest p s = true ↔ (s.port p).queue ≠ [] := by
  simp only [hasRequest, Bool.not_eq_true', List.isEmpty_eq_false_iff]

theorem ringHas_iff (m : RingOne) (s : State) : ringHas m s = true ↔ RingWaits s m := by
  cases m with
  | ixa => exact hasRequest_iff .ixa s
  | ixb => exact hasRequest_iff .ixb s
  | low => rw [ringHas, Bool.or_eq_true, hasRequest_iff, hasRequest_iff, RingWaits]

/-! ### The level-one ring (R160) -/

/-- `o` is the first member after `m` that has a request: the pointer of the level-one ring moves from `m` to `o`. -/
def RingMoves (s : State) (m o : RingOne) : Prop :=
  RingWaits s o ∧ (o = ringNext m ∨ ¬ RingWaits s (ringNext m) ∧ (o = ringNext (ringNext m) ∨
    ¬ RingWaits s (ringNext (ringNext m)) ∧ o = m))

theorem ringFrom_eq (m : RingOne) : ringFrom m = [ringNext m, ringNext (ringNext m), m] := by cases m <;> rfl

theorem mem_ringFrom (m o : RingOne) : o ∈ ringFrom m := by cases m <;> cases o <;> decide

/-- The first of three members that meets a condition. -/
theorem find?_three {α : Type} {q : α → Bool} {a b c o : α} :
    [a, b, c].find? q = some o ↔
      q o = true ∧ (o = a ∨ ¬ q a = true ∧ (o = b ∨ ¬ q b = true ∧ o = c)) := by
  by_cases ha : q a = true
  · rw [List.find?_cons_of_pos ha]
    grind
  by_cases hb : q b = true
  · rw [List.find?_cons_of_neg ha, List.find?_cons_of_pos hb]
    grind
  · rw [List.find?_cons_of_neg ha, List.find?_cons_of_neg hb, List.find?_singleton]
    grind

theorem ringFrom_find?_iff (s : State) (m o : RingOne) :
    ((ringFrom m).find? fun m => ringHas m s) = some o ↔ RingMoves s m o := by
  simp only [ringFrom_eq, find?_three, ringHas_iff, RingMoves]

/-- How many moves by one member lead from `m` to `o`: one, two, or three for once round. -/
def ringDistance (m o : RingOne) : Nat := if o = ringNext m then 1 else if o = ringNext (ringNext m) then 2 else 3

theorem ringDistance_pos (m o : RingOne) : 1 ≤ ringDistance m o := by
  unfold ringDistance
  split
  · decide
  · split <;> decide

theorem ringDistance_le (m o : RingOne) : ringDistance m o ≤ 3 := by
  unfold ringDistance
  split
  · decide
  · split <;> decide

theorem ringNext_nearer (m q : RingOne) : ringNext m = q ∨ ringDistance (ringNext m) q < ringDistance m q := by
  cases m <;> cases q <;> decide

theorem ringNext_next_nearer (m q : RingOne) : q = ringNext m ∨ ringNext (ringNext m) = q ∨
    ringDistance (ringNext (ringNext m)) q < ringDistance m q := by
  cases m <;> cases q <;> decide

theorem ring_members (m q : RingOne) : q = ringNext m ∨ q = ringNext (ringNext m) ∨ q = m := by
  cases m <;> cases q <;> decide

/-- A member that has a request is the one the pointer moves to, or the pointer comes nearer to it. -/
theorem ringMoves_nearer {s : State} {m o q : RingOne} (h : RingMoves s m o) (waits : RingWaits s q) :
    o = q ∨ ringDistance o q < ringDistance m q := by
  have waiting : ∀ {r}, ¬ RingWaits s r → q ≠ r := fun idle same => idle (same ▸ waits)
  obtain ⟨-, rfl | ⟨idle, rfl | ⟨idleTwo, rfl⟩⟩⟩ := h
  · exact ringNext_nearer m q
  · exact (ringNext_next_nearer m q).resolve_left (waiting idle)
  · exact .inl (((ring_members o q).resolve_left (waiting idle)).resolve_left (waiting idleTwo)).symm

/-- Of three successive moves one comes to a member that has a request throughout. -/
theorem ringMoves_three {s1 s2 s3 : State} {m o1 o2 o3 q : RingOne} (h1 : RingMoves s1 m o1) (h2 : RingMoves s2 o1 o2)
    (h3 : RingMoves s3 o2 o3) (w1 : RingWaits s1 q) (w2 : RingWaits s2 q) (w3 : RingWaits s3 q) :
    o1 = q ∨ o2 = q ∨ o3 = q := by
  obtain first | near1 := ringMoves_nearer h1 w1
  · exact .inl first
  obtain second | near2 := ringMoves_nearer h2 w2
  · exact .inr (.inl second)
  obtain third | near3 := ringMoves_nearer h3 w3
  · exact .inr (.inr third)
  have := ringDistance_le m q
  have := ringDistance_pos o3 q
  omega

/-! ### The level-two ring (R160) -/

section
variable {s : State} (waits : RingWaits s .low)
include waits

theorem winTwo_eq_mnt_iff (last : RingTwo) :
    winTwo last s = .mnt ↔ (s.port .mnt).queue ≠ [] ∧ (last = .mnt → (s.port .recorder).queue = []) := by
  cases last with
  | recorder => simp [winTwo, hasRequest_iff]
  | mnt =>
    have only : (s.port .recorder).queue = [] → (s.port .mnt).queue ≠ [] := fun none => waits.resolve_right (· none)
    simpa [winTwo, hasRequest_iff] using only

theorem winTwo_eq_recorder_iff (last : RingTwo) :
    winTwo last s = .recorder ↔ (s.port .recorder).queue ≠ [] ∧ (last = .recorder → (s.port .mnt).queue = []) := by
  cases last with
  | mnt => simp [winTwo, hasRequest_iff]
  | recorder =>
    have only : (s.port .mnt).queue = [] → (s.port .recorder).queue ≠ [] := fun none => waits.resolve_left (· none)
    simpa [winTwo, hasRequest_iff] using only

end

/-! ### ROTATE (R160) -/

/-- The port that a turn of member `o` goes to, and the level-two pointer after it. -/
def turn (s : State) (o : RingOne) : PortId × RingTwo :=
  match o with
  | .ixa => (.ixa, s.arbTwo)
  | .ixb => (.ixb, s.arbTwo)
  | .low => ((winTwo s.arbTwo s).port, winTwo s.arbTwo s)

theorem chooseRotate_eq (s : State) :
    chooseRotate s =
      ((ringFrom s.arbOne).find? fun m => ringHas m s).map fun o => ((turn s o).1, o, (turn s o).2) := by
  unfold chooseRotate
  cases (ringFrom s.arbOne).find? fun m => ringHas m s with
  | none => rfl
  | some m => cases m <;> rfl

section
variable {s : State} {p : PortId} {o : RingOne} {w : RingTwo}

theorem choose_rotate_iff (mode : s.arbMode = .rotate) :
    choose s = some (p, o, w) ↔ RingMoves s s.arbOne o ∧ turn s o = (p, w) := by
  rw [choose, mode, chooseRotate_eq, Option.map_eq_some_iff, ← ringFrom_find?_iff]
  simp only [Prod.ext_iff]
  constructor
  · rintro ⟨m, found, port, rfl, pointer⟩
    exact ⟨found, port, pointer⟩
  · rintro ⟨found, port, pointer⟩
    exact ⟨o, found, port, rfl, pointer⟩

theorem turn_ixa_iff (waits : RingWaits s .ixa) :
    turn s .ixa = (p, w) ↔ (s.port p).queue ≠ [] ∧ p = .ixa ∧ w = s.arbTwo := by
  constructor
  · rintro ⟨rfl, rfl⟩
    exact ⟨waits, rfl, rfl⟩
  · rintro ⟨-, rfl, rfl⟩
    rfl

theorem turn_ixb_iff (waits : RingWaits s .ixb) :
    turn s .ixb = (p, w) ↔ (s.port p).queue ≠ [] ∧ p = .ixb ∧ w = s.arbTwo := by
  constructor
  · rintro ⟨rfl, rfl⟩
    exact ⟨waits, rfl, rfl⟩
  · rintro ⟨-, rfl, rfl⟩
    rfl

theorem turn_low_iff (waits : RingWaits s .low) :
    turn s .low = (p, w) ↔ (s.port p).queue ≠ [] ∧
      ((p = .mnt ∧ w = .mnt ∧ (s.arbTwo = .mnt → (s.port .recorder).queue = [])) ∨
        (p = .recorder ∧ w = .recorder ∧ (s.arbTwo = .recorder → (s.port .mnt).queue = []))) := by
  have goes : turn s .low = (p, w) ↔ p = w.port ∧ winTwo s.arbTwo s = w := by
    constructor
    · rintro ⟨rfl, rfl⟩
      exact ⟨rfl, rfl⟩
    · rintro ⟨rfl, rfl⟩
      rfl
  rw [goes]
  cases w with
  | mnt =>
    rw [winTwo_eq_mnt_iff waits]
    constructor
    · rintro ⟨rfl, queue, turn⟩
      exact ⟨queue, .inl ⟨rfl, rfl, turn⟩⟩
    · rintro ⟨queue, ⟨rfl, -, turn⟩ | ⟨-, other, -⟩⟩
      · exact ⟨rfl, queue, turn⟩
      · exact nomatch other
  | recorder =>
    rw [winTwo_eq_recorder_iff waits]
    constructor
    · rintro ⟨rfl, queue, turn⟩
      exact ⟨queue, .inr ⟨rfl, rfl, turn⟩⟩
    · rintro ⟨queue, ⟨-, other, -⟩ | ⟨rfl, -, turn⟩⟩
      · exact nomatch other
      · exact ⟨rfl, queue, turn⟩

theorem and_regroup {a q r g t : Prop} (h : a → (t ↔ q ∧ g)) : (a ∧ r) ∧ t ↔ a ∧ q ∧ r ∧ g := by
  constructor
  · rintro ⟨⟨ha, hr⟩, ht⟩
    obtain ⟨hq, hg⟩ := (h ha).mp ht
    exact ⟨ha, hq, hr, hg⟩
  · rintro ⟨ha, hq, hr, hg⟩
    exact ⟨⟨ha, hr⟩, (h ha).mpr ⟨hq, hg⟩⟩

/-- R160's winner is the one that the level-one ring and the turn of its member give. -/
theorem choose_rotate_winner (mode : s.arbMode = .rotate) : choose s = some (p, o, w) ↔ RotateWinner s p o w := by
  rw [choose_rotate_iff mode]
  cases o with
  | ixa => exact and_regroup turn_ixa_iff
  | ixb => exact and_regroup turn_ixb_iff
  | low => exact and_regroup turn_low_iff

end

/-! ### Fairness (R160) -/

/-- The member of the level-one ring whose turns serve a port. -/
def ringOf (q : PortId) : RingOne :=
  match q with
  | .ixa => .ixa
  | .ixb => .ixb
  | .mnt | .recorder => .low

theorem ringWaits_of_queue {s : State} {q : PortId} (h : (s.port q).queue ≠ []) : RingWaits s (ringOf q) := by
  cases q with
  | ixa | ixb => exact h
  | mnt => exact .inl h
  | recorder => exact .inr h

/-- A turn goes to a port that its member serves. -/
theorem ringOf_turn (s : State) (o : RingOne) : ringOf (turn s o).1 = o := by
  cases o with
  | ixa | ixb => rfl
  | low =>
    change ringOf (winTwo s.arbTwo s).port = _
    cases winTwo s.arbTwo s <;> rfl

theorem ringOf_eq_low_iff (q : PortId) : ringOf q = .low ↔ q = .mnt ∨ q = .recorder := by cases q <;> decide

/-- An interlocking port is alone with its member. -/
theorem eq_of_ringOf_eq {p q : PortId} (interlocking : q = .ixa ∨ q = .ixb) (h : ringOf p = ringOf q) : p = q := by
  obtain rfl | rfl := interlocking
  · cases p with
    | ixa => rfl
    | ixb | mnt | recorder => exact nomatch h
  · cases p with
    | ixb => rfl
    | ixa | mnt | recorder => exact nomatch h

/-- The level-two pointer does not come back to a port while the other one waits. -/
theorem winTwo_other {s : State} {last w : RingTwo} (other : last ≠ w) (waits : (s.port w.port).queue ≠ []) :
    winTwo last s = w := by
  have has := (hasRequest_iff _ s).mpr waits
  cases last with
  | mnt =>
    cases w with
    | mnt => exact absurd rfl other
    | recorder => exact if_pos has
  | recorder =>
    cases w with
    | mnt => exact if_pos has
    | recorder => exact absurd rfl other

theorem exists_ringTwo {q : PortId} (h : q = .mnt ∨ q = .recorder) : ∃ w : RingTwo, w.port = q :=
  h.elim (fun h => ⟨.mnt, h.symm⟩) fun h => ⟨.recorder, h.symm⟩

/-! ### FIXED (R161) -/

theorem mem_allPorts (p : PortId) : p ∈ allPorts := by cases p <;> decide

theorem choose_fixed {s : State} (mode : s.arbMode = .fixed) :
    choose s = (allPorts.find? fun p => hasRequest p s).map fun p => (p, s.arbOne, s.arbTwo) := by
  rw [choose, mode]
  rfl

/-- The order of the list is the numbering of the ports. -/
theorem portIndex_getElem {i : Nat} (h : i < allPorts.length) : (portIndex allPorts[i]).val = i := by
  have numbered : ∀ i : Fin 4, (portIndex allPorts[i]).val = i := by decide
  exact numbered ⟨i, h⟩

theorem getElem_portIndex (p : PortId) : allPorts[(portIndex p).val]? = some p := by cases p <;> rfl

/-- The first port of the order that has a request: it has one, and no port before it. -/
theorem allPorts_find?_iff (s : State) (p : PortId) :
    (allPorts.find? fun p => hasRequest p s) = some p ↔
      (s.port p).queue ≠ [] ∧ ∀ q, (portIndex q).val < (portIndex p).val → (s.port q).queue = [] := by
  have idle : ∀ q, (!hasRequest q s) = true ↔ (s.port q).queue = [] := fun q => by
    rw [Bool.not_eq_true', ← Bool.not_eq_true, hasRequest_iff, Classical.not_not]
  rw [List.find?_eq_some_iff_getElem, hasRequest_iff]
  refine and_congr_right fun _ => ⟨?_, fun before => ?_⟩
  · rintro ⟨i, inside, rfl, before⟩ q lower
    rw [portIndex_getElem] at lower
    obtain ⟨_, at_index⟩ := List.getElem?_eq_some_iff.mp (getElem_portIndex q)
    have none := before _ lower
    rwa [at_index, idle] at none
  · obtain ⟨inside, at_index⟩ := List.getElem?_eq_some_iff.mp (getElem_portIndex p)
    refine ⟨_, inside, at_index, fun j lower => (idle _).mpr (before _ ?_)⟩
    rwa [portIndex_getElem]

theorem choose_fixed_iff {s : State} {p : PortId} {o : RingOne} {w : RingTwo} (mode : s.arbMode = .fixed) :
    choose s = some (p, o, w) ↔ o = s.arbOne ∧ w = s.arbTwo ∧ (s.port p).queue ≠ [] ∧
      ∀ q, (portIndex q).val < (portIndex p).val → (s.port q).queue = [] := by
  rw [choose_fixed mode, Option.map_eq_some_iff, ← allPorts_find?_iff]
  simp only [Prod.mk.injEq]
  constructor
  · rintro ⟨q, found, rfl, rfl, rfl⟩
    exact ⟨rfl, rfl, found⟩
  · rintro ⟨rfl, rfl, found⟩
    exact ⟨p, found, rfl, rfl, rfl⟩

/-! ### No request -/

theorem choose_none_iff (s : State) : choose s = none ↔ ∀ p, (s.port p).queue = [] := by
  have idle : ∀ p, ¬ hasRequest p s = true ↔ (s.port p).queue = [] := fun p => by
    rw [hasRequest_iff, Classical.not_not]
  cases mode : s.arbMode with
  | fixed =>
    rw [choose_fixed mode, Option.map_eq_none_iff, List.find?_eq_none]
    exact ⟨fun none p => (idle p).mp (none p (mem_allPorts p)), fun none p _ => (idle p).mpr (none p)⟩
  | rotate =>
    rw [choose, mode, chooseRotate_eq, Option.map_eq_none_iff, List.find?_eq_none]
    constructor
    · intro none p
      by_contra waits
      exact none _ (mem_ringFrom _ _) ((ringHas_iff _ s).mpr (ringWaits_of_queue waits))
    · intro none m _ has
      cases m with
      | ixa | ixb => exact (idle _).mpr (none _) has
      | low => exact ((ringHas_iff _ s).mp has).elim (· (none _)) (· (none _))

/-- Settles O51: the two modes, and the turns that bring the level-one pointer nearer to a member that waits. -/
theorem arbiterChoice : Obligations.ArbiterChoice := by
  unfold Obligations.ArbiterChoice
  refine ⟨fun s p o w mode => choose_rotate_winner mode, ?turns, ?pair, fun s p o w mode => choose_fixed_iff mode,
    choose_none_iff⟩
  case turns =>
    intro s1 s2 s3 p1 p2 p3 q o1 o2 o3 w1 w2 w3 m1 m2 m3 c1 one1 _ c2 one2 _ c3 q1 q2 q3
    obtain ⟨moves1, turn1⟩ := (choose_rotate_iff m1).mp c1
    obtain ⟨moves2, turn2⟩ := (choose_rotate_iff m2).mp c2
    obtain ⟨moves3, turn3⟩ := (choose_rotate_iff m3).mp c3
    have of1 : ringOf p1 = o1 := by have := ringOf_turn s1 o1; rwa [turn1] at this
    have of2 : ringOf p2 = o2 := by have := ringOf_turn s2 o2; rwa [turn2] at this
    have of3 : ringOf p3 = o3 := by have := ringOf_turn s3 o3; rwa [turn3] at this
    rw [one1] at moves2
    rw [one2] at moves3
    have served := ringMoves_three moves1 moves2 moves3 (ringWaits_of_queue q1) (ringWaits_of_queue q2)
      (ringWaits_of_queue q3)
    subst of1 of2 of3
    refine ⟨fun interlocking => ?_, fun pair => ?_⟩
    · exact served.imp (eq_of_ringOf_eq interlocking)
        (Or.imp (eq_of_ringOf_eq interlocking) (eq_of_ringOf_eq interlocking))
    · rw [(ringOf_eq_low_iff q).mpr pair] at served
      have both : ∀ {p}, ringOf p = .low → ringOf p = .low ∧ (p = .mnt ∨ p = .recorder) := fun h =>
        ⟨h, (ringOf_eq_low_iff _).mp h⟩
      exact served.imp both (Or.imp both both)
  case pair =>
    intro s1 s2 p1 p2 q w1 w2 m1 m2 c1 two1 c2 pair lost waits
    obtain ⟨w, rfl⟩ := exists_ringTwo pair
    obtain ⟨-, turn1⟩ := (choose_rotate_iff m1).mp c1
    obtain ⟨-, turn2⟩ := (choose_rotate_iff m2).mp c2
    obtain ⟨rfl, rfl⟩ := Prod.mk.inj turn1
    obtain ⟨rfl, rfl⟩ := Prod.mk.inj turn2
    have other : s2.arbTwo ≠ w := fun same => lost (congrArg RingTwo.port (two1.symm.trans same))
    rw [winTwo_other other waits]

end Sys2Proof.Proofs
end

section
/-! Proofs: IDENTIFY and SET MASK (R168, R174, R175), the two requests about the attention of their port. -/

namespace Sys2Proof.Proofs

open Sys2Proof.Machine Sys2Proof.Safety Sys2Proof.Claims

/-! ### The causes pending (R168) -/

section
variable (w : Word) (x : Watch)

/-- The causes pending as IDENTIFY answers them (10.7). -/
theorem pendingByte_flags :
    FlagsAre ((pendingCauses w x).setWidth 8) x.latchLink x.latchSection x.latchReset (levelPresent w x)
      x.latchDwell := by
  have small : ∀ f0 f1 f2 f3 f4 : Bool,
      bitAt 0 f0 + bitAt 1 f1 + bitAt 2 f2 + bitAt 3 f3 + bitAt 4 f4 < 2 ^ 5 := by decide
  rw [pendingCauses, BitVec.setWidth_ofNat_of_le_of_lt (by decide) (small _ _ _ _ _)]
  exact flagsAre_byteOf _ _ _ _ _

/-! ### The cause identified (R175) -/

/-- Each cause is found where those before it in priority are not. -/
theorem identifies_identified :
    Identifies x (levelPresent w x) (attnCauseCode (identified w x)) (clearCause (identified w x) x) := by
  obtain ⟨link, sect, rst, lvl, dwl, -⟩ := pendingByte_flags w x
  simp only [BitVec.getLsbD_setWidth, Nat.reduceLT, decide_true, Bool.true_and] at link sect rst lvl dwl
  simp only [Identifies, identified, List.find?_cons, List.find?_nil, AttnCause.bit, BitVec.getLsbD_and, link, sect,
    rst, lvl, dwl]
  cases x.latchLink && x.mask.getLsbD 0 with
  | true => exact .inl ⟨rfl, rfl, rfl⟩
  | false =>
  refine .inr ?_
  cases x.latchSection && x.mask.getLsbD 1 with
  | true => exact .inl ⟨rfl, rfl, rfl, rfl⟩
  | false =>
  refine .inr ?_
  cases x.latchReset && x.mask.getLsbD 2 with
  | true => exact .inl ⟨rfl, rfl, rfl, rfl, rfl⟩
  | false =>
  refine .inr ?_
  cases levelPresent w x && x.mask.getLsbD 3 with
  | true => exact .inl ⟨rfl, rfl, rfl, rfl, rfl, rfl⟩
  | false =>
  refine .inr ?_
  cases x.latchDwell && x.mask.getLsbD 4 with
  | true => exact .inl ⟨rfl, rfl, rfl, rfl, rfl, rfl, rfl⟩
  | false => exact .inr ⟨rfl, rfl, rfl, rfl, rfl, rfl, rfl⟩

/-! The mask, the unread count and LEVEL are no latches: the clearing leaves them as they were. -/

variable (c : Option AttnCause)

theorem clearCause_mask : (clearCause c x).mask = x.mask := by unfold clearCause; split <;> rfl

theorem unread_clearCause : unread w (clearCause c x) = unread w x := by unfold clearCause; split <;> rfl

theorem levelPresent_clearCause : levelPresent w (clearCause c x) = levelPresent w x := by
  unfold clearCause; split <;> rfl

end

/-! ### Requests that every part state serves (R15) -/

theorem setWatch_unlinked (p : PortId) (x : Watch) : Unlinked fun u => u.setWatch p x :=
  ⟨fun _ => rfl, fun _ _ _ _ => rfl⟩

section
variable {s : State} {p : PortId} {r : Request} {queue : List Request} {one : RingOne} {two : RingTwo}
  {rule : PortId → Request → State → Reply} {result : ResultCode} {payload : List Byte} {f : State → State}

/-- The command of a request that needs no configuration, whose rule has an effect and a result. -/
theorem engineStep_answered_always (takes : Takes s p r queue one two) (right : permitted p r.kind = true)
    (always : servedUnconfigured r.kind = true) (other : r.kind ≠ .restart) (unlinked : Unlinked f)
    (reply : rule p r (takeRequest p one two s) = ⟨f (takeRequest p one two s), result, payload⟩) :
    ∃ t, engineStep r.kind rule s = .next t ∧ Settled t (Answered (f s) p r queue one two result payload) := by
  have waits : ((f s).port p).queue = r :: queue := by
    rw [State.port, unlinked.ports]
    exact queue_of_takes takes
  refine ⟨_, engineStep_of_takes takes rule, ?_⟩
  rw [serve_of_reply ((examine_rule right fun _ => always).trans reply)]
  simp only [answerKind, other, false_and, if_false, unlinked.takeRequest, placeAnswer_served waits]
  exact settled_settle _

end

/-! ### IDENTIFY (R175) and SET MASK (R174) -/

/-- The five bits of a mask as a byte: the other three of the byte they came in are 0 (R174). -/
theorem setWidth_five_setWidth (b : Byte) : (b.setWidth 5).setWidth 8 = b &&& 0x1F := by
  apply BitVec.eq_of_toNat_eq
  have low : b.toNat &&& 31 = b.toNat % 32 := Nat.and_two_pow_sub_one_eq_mod b.toNat 5
  simp only [BitVec.toNat_setWidth, BitVec.toNat_and, BitVec.reduceToNat, low]
  omega

/-- Settles O49: each request as one change of the asking port's watch. -/
theorem identifyAndSetMask : Obligations.IdentifyAndSetMask := by
  unfold Obligations.IdentifyAndSetMask
  intro s p r queue one two takes x level
  refine ⟨fun kind => ?identify, fun kind => ?setMask⟩
  case identify =>
    let w := s.journal.writeSeq
    let c := identified w x
    let y := clearCause c x
    have reply : identifyRule p r (takeRequest p one two s) =
        okay (identifyRecord c w y) ((takeRequest p one two s).setWatch p y) := rfl
    obtain ⟨t, step, settled⟩ := engineStep_answered_always takes (by rw [kind]; rfl) (by rw [kind]; rfl)
      (by rw [kind]; decide) (setWatch_unlinked p y) reply
    rw [kind] at step
    have flags := pendingByte_flags w y
    rw [levelPresent_clearCause] at flags
    have mask := congrArg (BitVec.setWidth 8) (clearCause_mask x c)
    have count := (byteOf_append_byteOf (unread w y)).trans (congrArg (BitVec.ofNat 16) (unread_clearCause w x c))
    exact ⟨t, y, identifyRecord c w y, step, identifies_identified w x, settled, rfl, flags, mask, count⟩
  case setMask =>
    have reply : setMaskRule p r (takeRequest p one two s) = okay [(r.byte 0) &&& 0x1F]
        ((takeRequest p one two s).setWatch p { x with mask := (r.byte 0).setWidth 5 }) := by
      rw [← setWidth_five_setWidth]
      rfl
    have answered := engineStep_answered_always takes (by rw [kind]; rfl) (by rw [kind]; rfl) (by rw [kind]; decide)
      (setWatch_unlinked p _) reply
    rwa [kind] at answered

end Sys2Proof.Proofs
end

section
/-! Proofs: the form of a step, the totality of the commands, and the fields of a telegram (10.2). One frame lemma for all
commands, `exec_pending`: no command changes the queue of waiting commands. -/

namespace Sys2Proof.Proofs

open Sys2Proof.Machine Sys2Proof.Safety Sys2Proof.Claims

/-! ### The queue of waiting commands, over the rules of the requests -/

section
variable (p : PortId) (r : Request) (s : State)

theorem selectViewRule_pending : (selectViewRule p r s).state.pending = s.pending := by
  unfold selectViewRule
  split <;> rfl

theorem journalReadRule_pending : (journalReadRule p r s).state.pending = s.pending := by
  unfold journalReadRule
  dsimp only
  split <;> rfl

theorem journalSeekRule_pending : (journalSeekRule p r s).state.pending = s.pending := by
  unfold journalSeekRule
  split <;> rfl

theorem setInhibitRule_pending : (setInhibitRule p r s).state.pending = s.pending := by
  unfold setInhibitRule
  repeat' split
  case h_2.isFalse.isFalse => exact (setInhibitFlag_only _ _ _ _).pending
  all_goals rfl

theorem proposeResetRule_pending : (proposeResetRule p r s).state.pending = s.pending := by
  unfold proposeResetRule proposeChecked
  dsimp only
  repeat' split
  all_goals rfl

theorem confirmResetRule_pending : (confirmResetRule p r s).state.pending = s.pending := by
  unfold confirmResetRule
  split
  · rfl
  dsimp only
  split
  · exact (endTxn_only _ _ _ _).pending
  split
  · rfl
  split
  · split
    · exact ((addConfirmation_only _ _ _ _).trans (completeTxn_only _ _ _)).pending
    · exact ((addConfirmation_only _ _ _ _).trans (endTxn_only _ _ _ _)).pending
  · exact (addConfirmation_only _ _ _ _).pending

theorem cancelResetRule_pending : (cancelResetRule p r s).state.pending = s.pending := by
  unfold cancelResetRule
  repeat' split
  case h_2.isFalse => exact (endTxn_only _ _ _ _).pending
  all_goals rfl

end

/-! ### The queue of waiting commands, over the other effects -/

section
variable (s : State)

theorem endLoad_pending (image : List Byte) : (endLoad image s).pending = s.pending := by
  unfold endLoad
  dsimp only
  split <;> rfl

theorem tick_pending : (tick s).pending = s.pending := by
  unfold tick
  dsimp only
  split <;> split <;> rfl

theorem answerSent_pending (p : PortId) :
    ((if p = .mnt ∧ restartSending s then restartSent else sendHead p) s).pending = s.pending := by
  split
  · rfl
  · exact (sendHead_only p s).pending

theorem takeDelivery_pending (l : LineId) : (takeDelivery l s).pending = s.pending := by
  unfold takeDelivery
  split
  · rfl
  · exact (supervise_only l _ _).pending

theorem expireTxn_pending (k : SlotId) : (expireTxn k s).pending = s.pending := by
  unfold expireTxn
  split
  · exact (endTxn_only _ _ _ s).pending
  · rfl

end

/-! ### Every command -/

section
variable {s t : State}

theorem event_pending {can : Bool} {eff : State → State} (h : event can eff s = .next t)
    (same : (eff s).pending = s.pending) : t.pending = s.pending := by
  obtain ⟨-, rfl⟩ | ⟨-, rfl⟩ := event_next h
  · exact (settle_pending _).trans same
  · rfl

/-- Taking a request and placing its answer leave the queue of commands alone: a request command keeps it where its
rule does. -/
theorem engineStep_pending {kind : RequestKind} {rule : PortId → Request → State → Reply}
    (h : engineStep kind rule s = .next t) (same : ∀ p r u, (rule p r u).state.pending = u.pending) :
    t.pending = s.pending := by
  refine event_pending h ?_
  unfold takeAndServe
  split
  · rename_i p r one two _
    have examined : (examine rule p r (takeRequest p one two s)).state.pending = s.pending := by
      unfold examine
      repeat' split
      case isTrue.isFalse => exact same _ _ _
      all_goals rfl
    exact (placeAnswer_only _ _ _).pending.trans examined
  · rfl

/-- No command changes the queue of waiting commands. -/
theorem exec_pending {c : Instr} (h : exec c s = .next t) : t.pending = s.pending := by
  cases c with
  | coldStart low => exact event_pending h rfl
  | loadEnd image => exact event_pending h (endLoad_pending s image)
  | warmStart => exact event_pending h rfl
  | answerSent p => exact event_pending h (answerSent_pending s p)
  | timeBaseMillisecond => exact event_pending h (tick_pending s)
  | resetInputLow | trkFramingError | trkBreak | trkBreakEnd | trkGapTimeout | lineSilenceExpiry | dwellTimerExpiry
  | portBreakEnd =>
    dsimp only [exec, execResetInputLow, execTrkFramingError, execTrkBreak, execTrkBreakEnd, execTrkGapTimeout,
      execLineSilenceExpiry, execDwellTimerExpiry, execPortBreakEnd] at h
    exact event_pending h rfl
  | trkGoodCharacter l b early => exact event_pending h (lineCharacter_only l b s).pending
  | telegramDelivery l => exact event_pending h (takeDelivery_pending s l)
  | pointSilenceExpiry d => exact event_pending h (pointSilent_only d s).pending
  | handOff span =>
    cases span with
    | whole => exact event_pending h (handOffAll_only s).pending
    | oneStep => exact event_pending h (handOffOnce_only s).pending
  | clearingTimerExpiry n => exact event_pending h (putSection_only _ _ _ s).pending
  | confirmWindowExpiry k => exact event_pending h (expireTxn_pending s k)
  | portGoodCharacter p b => exact event_pending h (portCharacter_only p b s).pending
  | rejoin p tag => exact event_pending h (handleFrame_only _ _ _ s).pending
  | portFramingError p | portGapTimeout p => exact event_pending h (discardFrame_only p s).pending
  | portBreak p => exact event_pending h (linkReset_only p s).pending
  | status | summary | readNext | identify | setMask | clearStatistics | restart =>
    exact engineStep_pending h fun _ _ _ => rfl
  | readSection => exact engineStep_pending h fun p r u => by rw [readSectionRule_state]
  | readPoint => exact engineStep_pending h fun p r u => by rw [readPointRule_state]
  | readLine => exact engineStep_pending h fun p r u => by rw [readLineRule_state]
  | selectView => exact engineStep_pending h selectViewRule_pending
  | journalRead => exact engineStep_pending h journalReadRule_pending
  | journalSeek => exact engineStep_pending h journalSeekRule_pending
  | setInhibit => exact engineStep_pending h setInhibitRule_pending
  | proposeReset => exact engineStep_pending h proposeResetRule_pending
  | confirmReset => exact engineStep_pending h confirmResetRule_pending
  | cancelReset => exact engineStep_pending h cancelResetRule_pending

end

/-- An event, and so every command, answers a next state. -/
theorem exec_answers (c : Instr) (s : State) : ∃ t, exec c s = .next t := by
  obtain ⟨can, eff, form⟩ := exec_eq_event c s
  exact ⟨_, form⟩

/-- Settles O2: a command is an event, which answers a next state, and none touches the queue. -/
theorem everyCommandAnswersNext : Obligations.EveryCommandAnswersNext := by
  unfold Obligations.EveryCommandAnswersNext
  intro c s
  obtain ⟨t, answer⟩ := exec_answers c s
  exact ⟨t, answer, exec_pending answer⟩

/-! ### A step -/

theorem step_of_cons {s : State} {c : Instr} {rest : List Instr} (waits : s.pending = c :: rest) :
    step s = exec c { s with pending := rest } := by
  unfold step
  rw [waits]

theorem step_of_nil {s : State} (idle : s.pending = []) : step s = .next s := by
  unfold step
  rw [idle]

/-- Settles O1: the two cases of the queue. -/
theorem stepRunsFrontCommand : Obligations.StepRunsFrontCommand := by
  unfold Obligations.StepRunsFrontCommand
  exact ⟨fun _ _ _ => step_of_cons rfl, fun _ => step_of_nil⟩

/-! ### The fields of a telegram (10.2) -/

/-- The low bits of a word are its remainder. -/
theorem extractLsb'_zero_toNat {w : Nat} (n : Nat) (b : BitVec w) :
    (b.extractLsb' 0 n).toNat = b.toNat % 2 ^ n := by
  rw [BitVec.extractLsb'_toNat, Nat.shiftRight_zero]

/-- Settles O13: the point number and the sequence are the low bits of their bytes; every other field is the bit or the
byte that 10.2 names. -/
theorem telegramFields : Obligations.TelegramFields := by
  unfold Obligations.TelegramFields
  intro b1 b2 b3 b4 b5 b6
  exact ⟨extractLsb'_zero_toNat 5 b1, extractLsb'_zero_toNat 3 b2, rfl, rfl, rfl, rfl, rfl, rfl, rfl, rfl⟩

end Sys2Proof.Proofs
end
